-- ==== Sys2Proof/Word.lean ====
section
/-! DEFINITION. The widths of the synthesizer core (spec 00_scope.md R6, R7, R10; 30_encoding.md R45), as names. -/

namespace Sys2Proof

/-- A byte: every register and every data operand (R16, R45). -/
abbrev Byte := BitVec 8

/-- The 32-bit command word CW (R45). -/
abbrev CommandWord := BitVec 32

/-- The 64-bit argument ARG of a command; read as a signed number through `toInt` (R46). -/
abbrev Arg := BitVec 64

/-- One output sample, signed 16 bits, read through `toInt` (20_memory.md R31). -/
abbrev Sample := BitVec 16

/-- The oscillator accumulator, 32 bits unsigned, wrapping (R6, R20). -/
abbrev Phase := BitVec 32

/-- The noise shift register, 23 bits (R7, R20). -/
abbrev Noise := BitVec 23

/-- The envelope counter, 31 bits unsigned (R6, R20). -/
abbrev EnvCounter := BitVec 31

/-- A filter integrator, signed 32 bits, read through `toInt` (R20). -/
abbrev Integrator := BitVec 32

/-- The three voices, 0 to 2 (R2). -/
abbrev VoiceId := Fin 3

/-- The seed of the noise shift register, `LFSR_SEED` (43_voice.md R90; 92 D15). -/
def lfsrSeed : Noise := 0x7FFFF8#23

/-- The largest envelope counter, `ENV_MAX` (44_envelope.md R101). -/
def envMax : EnvCounter := 0x7FFFFFFF#31

end Sys2Proof
end

