-- ==== Sys2Proof/Config.lean ====
section
/-! DEFINITION. What an implementation fixes and the spec leaves open: the chip variant's tag, and the parameters of
00_scope.md R9, each an uninterpreted constant (no body: nothing can be proved of its value beyond its type).
DESIGN CHOICE, log 4, 5, 6 and 11; safe: whatever is proved holds for every calibration. -/

namespace Sys2Proof

/-- The tag `VARIANT` (00_scope.md R3, 10_state.md R15): the two test configurations that 95_test_vectors.md section 1
writes out, and the chips, whose calibration the spec leaves open. -/
inductive Variant where
  /-- The Test Configuration TC. -/
  | tc
  /-- TC-A: TC but for its attack table. -/
  | tcA
  /-- A chip revision; its calibration is whatever the constants below are at its number. -/
  | chip (n : Nat)
deriving DecidableEq, Repr, Inhabited

/-- `freqStep(f, clockRate, sampleRate)` of a chip (R9, 43_voice.md R87): arguments chip, f, clockRate, sampleRate. -/
opaque Config.freqStep : Nat → BitVec 16 → Nat → Nat → BitVec 32

/-- `attackStep[i]` of a chip at (sampleRate, clockRate) (R9): arguments chip, sampleRate, clockRate, i. -/
opaque Config.attackStep : Nat → Nat → Nat → BitVec 4 → BitVec 31

/-- `decayStep[i]` of a chip at (sampleRate, clockRate) (R9): arguments chip, sampleRate, clockRate, i. -/
opaque Config.decayStep : Nat → Nat → Nat → BitVec 4 → BitVec 31

/-- The decay lookup table of a chip before its order is enforced (R9): thresholds and shifts. The table the machine
reads is `Machine.decayTable`, which keeps the strictly decreasing thresholds R9 asks for. -/
opaque Config.rawDecayTable : Nat → List (BitVec 31 × Fin 32)

/-- `Dy(fc, sampleRate)` of a chip, signed Q16 (R9): arguments chip, fc, sampleRate. -/
opaque Config.filterDy : Nat → BitVec 11 → Nat → BitVec 32

/-- `ResDy(res, fc, sampleRate)` of a chip, signed Q16 (R9): arguments chip, res, fc, sampleRate. -/
opaque Config.filterResDy : Nat → BitVec 4 → BitVec 11 → Nat → BitVec 32

/-- `OUT_SHIFT` of a chip, 0..31 (R9). -/
opaque Config.outShift : Nat → Fin 32

/-- `NOISE_SHIFT_PER_WRAP` of a chip, 0..23 (R9). -/
opaque Config.noiseShiftPerWrap : Nat → Fin 24

/-- The free byte `draw()` gives at its k-th use (00_scope.md R11): any value, under no law. -/
opaque Config.draw : Nat → Byte

/-- The 64-bit form in which Q_SIZE returns a number of entries that 64 bits cannot hold (30_encoding.md R47; log 11). -/
opaque Config.wideSize : Nat → BitVec 64

/-- The 64-bit form in which Q_TOTAL returns a sum that 64 bits cannot hold, from the deltas (30_encoding.md R47; log 11). -/
opaque Config.wideTotal : List Nat → BitVec 64

/-- One less than the `QCAP` the chip of `State.reset` was powered on with. -/
opaque Config.queueCapacityLessOne : Nat

/-- The variant the chip of `State.reset` was powered on with. -/
opaque Config.powerOnVariant : Variant

/-- The variants the implementation supports besides the test configurations and `Config.powerOnVariant`. -/
opaque Config.otherVariants : List Variant

/-- `QCAP` at power-on, a positive integer (R9, R15). -/
def Config.queueCapacity : Nat := Config.queueCapacityLessOne + 1

/-- The variants power-on accepts (70_reset_and_hazards.md R143): the two test configurations, of which the rule's example
powers on TC, and the variant of the chip the machine starts from, which was created (log 6). -/
def Config.supportedVariants : List Variant := .tc :: .tcA :: Config.powerOnVariant :: Config.otherVariants

end Sys2Proof
end

