-- ==== Sys2Proof/Machine/Chip.lean ====
section
/-! DEFINITION. The records a chip's state is made of: a voice, a queue entry, the chip (every field of the snapshot of
46_control.md R124), and the state blob that SAVE_STATE returns and LOAD_STATE takes. Plain data. -/

namespace Sys2Proof.Machine

/-- The ADSR state of a voice (10_state.md R20). -/
inductive EnvState where
  | attack | decay | sustain | release | idle
deriving DecidableEq, Repr

/-- One voice's state (10_state.md R20). -/
structure Voice where
  /-- oscillator accumulator -/
  acc : Phase
  /-- noise shift register -/
  lfsr : Noise
  /-- ADSR state -/
  env : EnvState
  /-- envelope counter -/
  E : EnvCounter
  /-- index into the decay lookup table, 0..LUT_K -/
  exp : Nat
  /-- filter low-pass integrator (`filtLow`) -/
  lo : Integrator
  /-- filter band-pass integrator (`filtRef`) -/
  ref : Integrator
deriving DecidableEq, Repr

/-- The three voices. -/
structure Voices where
  v0 : Voice
  v1 : Voice
  v2 : Voice
deriving DecidableEq, Repr

/-- One pending register write (10_state.md R23); `delta` in tau (00_scope.md R12). -/
structure Entry where
  addr : Byte
  value : Byte
  delta : Nat
deriving DecidableEq, Repr

/-- A chip: every field of the snapshot of 46_control.md R124, at its width of 10_state.md. -/
structure Chip where
  /-- `VARIANT` (R15) -/
  variant : Variant
  /-- `QCAP` (R15) -/
  qcap : Nat
  /-- samples per second, 0 = unset (R15) -/
  sampleRate : Nat
  /-- CPU cycles per second, 0 = unset (R15) -/
  clockRate : Nat
  /-- the register shadow `Reg[0x00..0x18]` (R16) -/
  regs : Vector Byte 25
  /-- the last byte written by REG_WRITE (R22) -/
  latch : Byte
  /-- `V[0..2]` (R20) -/
  voices : Voices
  /-- `Q`, oldest entry first (R23) -/
  queue : List Entry
  /-- fractional sample remainder in tau (R24) -/
  frac : Nat
  /-- CPU cycle of the previous REG_WRITE, signed (R24) -/
  lastWriteCycle : Arg
  /-- writes dropped because the queue was full (R25) -/
  overflowCount : Nat
deriving DecidableEq, Repr

/-- A voice as a blob carries it: integers that LOAD_STATE must check (R126). -/
structure BlobVoice where
  acc : Int
  lfsr : Int
  env : EnvState
  E : Int
  exp : Int
  lo : Int
  ref : Int
deriving DecidableEq, Repr

/-- A queue entry as a blob carries it. -/
structure BlobEntry where
  addr : Int
  value : Int
  delta : Int
deriving DecidableEq, Repr

/-- The state blob (46_control.md R124): the record itself, its numbers as integers of any size, since LOAD_STATE
is given blobs whose fields lie outside their widths and must refuse them (R126; 95 V-CTL-9). Its byte layout is out of
scope. Log 9. -/
structure Blob where
  variant : Variant
  qcap : Int
  sampleRate : Int
  clockRate : Int
  regs : List Int
  latch : Int
  voices : List BlobVoice
  queue : List BlobEntry
  frac : Int
  lastWriteCycle : Int
  overflowCount : Int
deriving DecidableEq, Repr

end Sys2Proof.Machine
end

