-- ==== Sys2Proof/Syntax.lean ====
section
/-! DEFINITION. The commands of the synthesizer core, one constructor per row of spec/opcode_table.json (30_encoding.md
R45, R48, R49), and the command as an agent hands it over. -/

namespace Sys2Proof

/-- What an agent hands over (R45): the command word, the ARG that the formats CW-AD and CW-N take, the state blob that CW-B
takes. A format that does not take an operand ignores it (R51; log 10). Where an agent gives no blob, or one that is no
snapshot record at all, `blob` is none (log 9). -/
structure Command where
  cw : CommandWord
  arg : Arg
  blob : Option Machine.Blob
deriving DecidableEq, Repr

/-- The command set. A REG_WRITE carries its data byte and its `cpuCycle`, signed; a row that stands for a class of
addresses carries the address too (R46). -/
inductive Instr where
  /-- REG_WRITE to address 0x00. -/
  | regWriteFreqLo0 (data : Byte) (cycle : Arg)
  /-- REG_WRITE to address 0x01. -/
  | regWriteFreqHi0 (data : Byte) (cycle : Arg)
  /-- REG_WRITE to address 0x02. -/
  | regWritePwLo0 (data : Byte) (cycle : Arg)
  /-- REG_WRITE to address 0x03. -/
  | regWritePwHi0 (data : Byte) (cycle : Arg)
  /-- REG_WRITE to address 0x04. -/
  | regWriteCtrl0 (data : Byte) (cycle : Arg)
  /-- REG_WRITE to address 0x05. -/
  | regWriteAd0 (data : Byte) (cycle : Arg)
  /-- REG_WRITE to address 0x06. -/
  | regWriteSr0 (data : Byte) (cycle : Arg)
  /-- REG_WRITE to address 0x07. -/
  | regWriteFreqLo1 (data : Byte) (cycle : Arg)
  /-- REG_WRITE to address 0x08. -/
  | regWriteFreqHi1 (data : Byte) (cycle : Arg)
  /-- REG_WRITE to address 0x09. -/
  | regWritePwLo1 (data : Byte) (cycle : Arg)
  /-- REG_WRITE to address 0x0A. -/
  | regWritePwHi1 (data : Byte) (cycle : Arg)
  /-- REG_WRITE to address 0x0B. -/
  | regWriteCtrl1 (data : Byte) (cycle : Arg)
  /-- REG_WRITE to address 0x0C. -/
  | regWriteAd1 (data : Byte) (cycle : Arg)
  /-- REG_WRITE to address 0x0D. -/
  | regWriteSr1 (data : Byte) (cycle : Arg)
  /-- REG_WRITE to address 0x0E. -/
  | regWriteFreqLo2 (data : Byte) (cycle : Arg)
  /-- REG_WRITE to address 0x0F. -/
  | regWriteFreqHi2 (data : Byte) (cycle : Arg)
  /-- REG_WRITE to address 0x10. -/
  | regWritePwLo2 (data : Byte) (cycle : Arg)
  /-- REG_WRITE to address 0x11. -/
  | regWritePwHi2 (data : Byte) (cycle : Arg)
  /-- REG_WRITE to address 0x12. -/
  | regWriteCtrl2 (data : Byte) (cycle : Arg)
  /-- REG_WRITE to address 0x13. -/
  | regWriteAd2 (data : Byte) (cycle : Arg)
  /-- REG_WRITE to address 0x14. -/
  | regWriteSr2 (data : Byte) (cycle : Arg)
  /-- REG_WRITE to address 0x15. -/
  | regWriteFcLo (data : Byte) (cycle : Arg)
  /-- REG_WRITE to address 0x16. -/
  | regWriteFcHi (data : Byte) (cycle : Arg)
  /-- REG_WRITE to address 0x17. -/
  | regWriteResFilt (data : Byte) (cycle : Arg)
  /-- REG_WRITE to address 0x18. -/
  | regWriteModeVol (data : Byte) (cycle : Arg)
  /-- REG_WRITE to address 0x19. -/
  | regWritePotx (data : Byte) (cycle : Arg)
  /-- REG_WRITE to address 0x1A. -/
  | regWritePoty (data : Byte) (cycle : Arg)
  /-- REG_WRITE to address 0x1B. -/
  | regWriteOsc3 (data : Byte) (cycle : Arg)
  /-- REG_WRITE to address 0x1C. -/
  | regWriteEnv3 (data : Byte) (cycle : Arg)
  /-- REG_WRITE to address 0x1D. -/
  | regWriteUnused1D (data : Byte) (cycle : Arg)
  /-- REG_WRITE to address 0x1E. -/
  | regWriteUnused1E (data : Byte) (cycle : Arg)
  /-- REG_WRITE to address 0x1F. -/
  | regWriteUnused1F (data : Byte) (cycle : Arg)
  /-- REG_WRITE to an address in 0x20..0x3F. -/
  | regWriteFrom20 (addr : Byte) (data : Byte) (cycle : Arg)
  /-- REG_WRITE to an address in 0x40..0x7F. -/
  | regWriteFrom40 (addr : Byte) (data : Byte) (cycle : Arg)
  /-- REG_WRITE to an address in 0x80..0xFF. -/
  | regWriteFrom80 (addr : Byte) (data : Byte) (cycle : Arg)
  /-- REG_READ of address 0x00. -/
  | regReadFreqLo0
  /-- REG_READ of address 0x01. -/
  | regReadFreqHi0
  /-- REG_READ of address 0x02. -/
  | regReadPwLo0
  /-- REG_READ of address 0x03. -/
  | regReadPwHi0
  /-- REG_READ of address 0x04. -/
  | regReadCtrl0
  /-- REG_READ of address 0x05. -/
  | regReadAd0
  /-- REG_READ of address 0x06. -/
  | regReadSr0
  /-- REG_READ of address 0x07. -/
  | regReadFreqLo1
  /-- REG_READ of address 0x08. -/
  | regReadFreqHi1
  /-- REG_READ of address 0x09. -/
  | regReadPwLo1
  /-- REG_READ of address 0x0A. -/
  | regReadPwHi1
  /-- REG_READ of address 0x0B. -/
  | regReadCtrl1
  /-- REG_READ of address 0x0C. -/
  | regReadAd1
  /-- REG_READ of address 0x0D. -/
  | regReadSr1
  /-- REG_READ of address 0x0E. -/
  | regReadFreqLo2
  /-- REG_READ of address 0x0F. -/
  | regReadFreqHi2
  /-- REG_READ of address 0x10. -/
  | regReadPwLo2
  /-- REG_READ of address 0x11. -/
  | regReadPwHi2
  /-- REG_READ of address 0x12. -/
  | regReadCtrl2
  /-- REG_READ of address 0x13. -/
  | regReadAd2
  /-- REG_READ of address 0x14. -/
  | regReadSr2
  /-- REG_READ of address 0x15. -/
  | regReadFcLo
  /-- REG_READ of address 0x16. -/
  | regReadFcHi
  /-- REG_READ of address 0x17. -/
  | regReadResFilt
  /-- REG_READ of address 0x18. -/
  | regReadModeVol
  /-- REG_READ of address 0x19. -/
  | regReadPotx
  /-- REG_READ of address 0x1A. -/
  | regReadPoty
  /-- REG_READ of address 0x1B. -/
  | regReadOsc3
  /-- REG_READ of address 0x1C. -/
  | regReadEnv3
  /-- REG_READ of address 0x1D. -/
  | regReadUnused1D
  /-- REG_READ of address 0x1E. -/
  | regReadUnused1E
  /-- REG_READ of address 0x1F. -/
  | regReadUnused1F
  /-- REG_READ of an address in 0x20..0x3F. -/
  | regReadFrom20 (addr : Byte)
  /-- REG_READ of an address in 0x40..0x7F. -/
  | regReadFrom40 (addr : Byte)
  /-- REG_READ of an address in 0x80..0xFF. -/
  | regReadFrom80 (addr : Byte)
  /-- RENDER; the sample count, signed. -/
  | render (count : Arg)
  /-- SET_OUTPUT_RATE; samples per second, signed. -/
  | setOutputRate (rate : Arg)
  /-- SET_CLOCK_RATE; cycles per second, signed. -/
  | setClockRate (rate : Arg)
  /-- RESET. -/
  | reset
  /-- SAVE_STATE. -/
  | saveState
  /-- LOAD_STATE; its blob, or none where the agent hands over something that is no snapshot record (log 9). -/
  | loadState (blob : Option Machine.Blob)
  /-- Q_DEQUEUE. -/
  | qDequeue
  /-- Q_FRONT. -/
  | qFront
  /-- Q_SIZE. -/
  | qSize
  /-- Q_TOTAL. -/
  | qTotal
  /-- Q_ENQUEUE; address, byte, delta in tau, signed. -/
  | qEnqueue (addr : Byte) (data : Byte) (delta : Arg)
  /-- a word with the reserved OP 0x0; its bits 31:4. -/
  | reserved0 (rest : BitVec 28)
  /-- a word with the reserved OP 0xE; its bits 31:4. -/
  | reservedE (rest : BitVec 28)
  /-- a word with the reserved OP 0xF; its bits 31:4. -/
  | reservedF (rest : BitVec 28)
deriving DecidableEq, Repr

end Sys2Proof
end

