-- ==== Sys2Proof/WellFormed.lean ====
section
/-! DEFINITION. Which terms of `Instr` an encoding stands for: the rows that stand for a class of addresses carry an address
of that class (spec/opcode_table.json; 30_encoding.md R49). Every other operand takes every value of its width (R17, R46). -/

namespace Sys2Proof

/-- The address classes of the table: `lo ≤ addr ≤ hi`. -/
def addrIn (lo hi addr : Byte) : Bool := decide (lo.toNat ≤ addr.toNat) && decide (addr.toNat ≤ hi.toNat)

/-- The terms an encoding stands for. -/
def WellFormed : Instr → Bool
  | .regWriteFreqLo0 _ _ | .regWriteFreqHi0 _ _ | .regWritePwLo0 _ _ | .regWritePwHi0 _ _ | .regWriteCtrl0 _ _ |
    .regWriteAd0 _ _ | .regWriteSr0 _ _ | .regWriteFreqLo1 _ _ | .regWriteFreqHi1 _ _ | .regWritePwLo1 _ _ |
    .regWritePwHi1 _ _ | .regWriteCtrl1 _ _ | .regWriteAd1 _ _ | .regWriteSr1 _ _ | .regWriteFreqLo2 _ _ |
    .regWriteFreqHi2 _ _ | .regWritePwLo2 _ _ | .regWritePwHi2 _ _ | .regWriteCtrl2 _ _ | .regWriteAd2 _ _ |
    .regWriteSr2 _ _ | .regWriteFcLo _ _ | .regWriteFcHi _ _ | .regWriteResFilt _ _ | .regWriteModeVol _ _ |
    .regWritePotx _ _ | .regWritePoty _ _ | .regWriteOsc3 _ _ | .regWriteEnv3 _ _ | .regWriteUnused1D _ _ |
    .regWriteUnused1E _ _ | .regWriteUnused1F _ _ => true
  | .regWriteFrom20 addr _ _ => addrIn 0x20 0x3F addr
  | .regWriteFrom40 addr _ _ => addrIn 0x40 0x7F addr
  | .regWriteFrom80 addr _ _ => addrIn 0x80 0xFF addr
  | .regReadFreqLo0 | .regReadFreqHi0 | .regReadPwLo0 | .regReadPwHi0 | .regReadCtrl0 | .regReadAd0 | .regReadSr0
    | .regReadFreqLo1 | .regReadFreqHi1 | .regReadPwLo1 | .regReadPwHi1 | .regReadCtrl1 | .regReadAd1 |
    .regReadSr1 | .regReadFreqLo2 | .regReadFreqHi2 | .regReadPwLo2 | .regReadPwHi2 | .regReadCtrl2 | .regReadAd2
    | .regReadSr2 | .regReadFcLo | .regReadFcHi | .regReadResFilt | .regReadModeVol | .regReadPotx | .regReadPoty
    | .regReadOsc3 | .regReadEnv3 | .regReadUnused1D | .regReadUnused1E | .regReadUnused1F => true
  | .regReadFrom20 addr => addrIn 0x20 0x3F addr
  | .regReadFrom40 addr => addrIn 0x40 0x7F addr
  | .regReadFrom80 addr => addrIn 0x80 0xFF addr
  | .render _ | .setOutputRate _ | .setClockRate _ | .reset | .saveState | .loadState _ | .qDequeue | .qFront |
    .qSize | .qTotal | .qEnqueue _ _ _ | .reserved0 _ | .reservedE _ | .reservedF _ => true

end Sys2Proof
end

