-- ==== Sys2Proof/Decode.lean ====
section
/-! DEFINITION. The decoder of command words (30_encoding.md R45 to R51), total, rejecting by name, and the encoder. -/

namespace Sys2Proof

/-- `OP`, bits 3:0 (R45). -/
def opField (cw : CommandWord) : BitVec 4 := cw.extractLsb' 0 4

/-- `ADDR`, bits 11:4 (R45). -/
def addrField (cw : CommandWord) : Byte := cw.extractLsb' 4 8

/-- `DATA`, bits 19:12 (R45). -/
def dataField (cw : CommandWord) : Byte := cw.extractLsb' 12 8

/-- `RSV`, bits 31:20 (R45). -/
def rsvField (cw : CommandWord) : BitVec 12 := cw.extractLsb' 20 12

/-- Bits 31:4, all that a word with a reserved OP holds besides it. -/
def restField (cw : CommandWord) : BitVec 28 := cw.extractLsb' 4 28

/-- The command word with the given OP, ADDR and DATA and RSV = 0 (R45). -/
def commandWord (op : BitVec 4) (addr data : Byte) : CommandWord := 0#12 ++ data ++ addr ++ op

/-- Why a command word whose OP is defined is reserved all the same (R50); such a word has no row of
spec/opcode_table.json. The step answers each with Fault(RESERVED_COMMAND). -/
inductive DecodeError where
  /-- `RSV` is not 0. -/
  | reservedBits
  /-- `ADDR` is not 0 and the format does not use it. -/
  | unusedAddr
  /-- `DATA` is not 0 and the format does not use it. -/
  | unusedData
deriving DecidableEq, Repr

/-- The second level of decoding a REG_WRITE, by `ADDR` (R49). -/
def decodeRegWrite (addr data : Byte) (cycle : Arg) : Instr :=
  match addr.toNat with
  | 0x00 => .regWriteFreqLo0 data cycle
  | 0x01 => .regWriteFreqHi0 data cycle
  | 0x02 => .regWritePwLo0 data cycle
  | 0x03 => .regWritePwHi0 data cycle
  | 0x04 => .regWriteCtrl0 data cycle
  | 0x05 => .regWriteAd0 data cycle
  | 0x06 => .regWriteSr0 data cycle
  | 0x07 => .regWriteFreqLo1 data cycle
  | 0x08 => .regWriteFreqHi1 data cycle
  | 0x09 => .regWritePwLo1 data cycle
  | 0x0A => .regWritePwHi1 data cycle
  | 0x0B => .regWriteCtrl1 data cycle
  | 0x0C => .regWriteAd1 data cycle
  | 0x0D => .regWriteSr1 data cycle
  | 0x0E => .regWriteFreqLo2 data cycle
  | 0x0F => .regWriteFreqHi2 data cycle
  | 0x10 => .regWritePwLo2 data cycle
  | 0x11 => .regWritePwHi2 data cycle
  | 0x12 => .regWriteCtrl2 data cycle
  | 0x13 => .regWriteAd2 data cycle
  | 0x14 => .regWriteSr2 data cycle
  | 0x15 => .regWriteFcLo data cycle
  | 0x16 => .regWriteFcHi data cycle
  | 0x17 => .regWriteResFilt data cycle
  | 0x18 => .regWriteModeVol data cycle
  | 0x19 => .regWritePotx data cycle
  | 0x1A => .regWritePoty data cycle
  | 0x1B => .regWriteOsc3 data cycle
  | 0x1C => .regWriteEnv3 data cycle
  | 0x1D => .regWriteUnused1D data cycle
  | 0x1E => .regWriteUnused1E data cycle
  | 0x1F => .regWriteUnused1F data cycle
  | n =>
    if n < 0x40 then .regWriteFrom20 addr data cycle
    else if n < 0x80 then .regWriteFrom40 addr data cycle
    else .regWriteFrom80 addr data cycle

/-- The second level of decoding a REG_READ, by `ADDR` (R49). -/
def decodeRegRead (addr : Byte) : Instr :=
  match addr.toNat with
  | 0x00 => .regReadFreqLo0
  | 0x01 => .regReadFreqHi0
  | 0x02 => .regReadPwLo0
  | 0x03 => .regReadPwHi0
  | 0x04 => .regReadCtrl0
  | 0x05 => .regReadAd0
  | 0x06 => .regReadSr0
  | 0x07 => .regReadFreqLo1
  | 0x08 => .regReadFreqHi1
  | 0x09 => .regReadPwLo1
  | 0x0A => .regReadPwHi1
  | 0x0B => .regReadCtrl1
  | 0x0C => .regReadAd1
  | 0x0D => .regReadSr1
  | 0x0E => .regReadFreqLo2
  | 0x0F => .regReadFreqHi2
  | 0x10 => .regReadPwLo2
  | 0x11 => .regReadPwHi2
  | 0x12 => .regReadCtrl2
  | 0x13 => .regReadAd2
  | 0x14 => .regReadSr2
  | 0x15 => .regReadFcLo
  | 0x16 => .regReadFcHi
  | 0x17 => .regReadResFilt
  | 0x18 => .regReadModeVol
  | 0x19 => .regReadPotx
  | 0x1A => .regReadPoty
  | 0x1B => .regReadOsc3
  | 0x1C => .regReadEnv3
  | 0x1D => .regReadUnused1D
  | 0x1E => .regReadUnused1E
  | 0x1F => .regReadUnused1F
  | n =>
    if n < 0x40 then .regReadFrom20 addr
    else if n < 0x80 then .regReadFrom40 addr
    else .regReadFrom80 addr

/-- A word of a format that uses neither ADDR nor DATA (CW-N, CW-0, CW-B): both and RSV must be 0 (R50). -/
def noOperands (cw : CommandWord) (i : Instr) : Except DecodeError Instr :=
  if rsvField cw ≠ 0 then .error .reservedBits
  else if addrField cw ≠ 0 then .error .unusedAddr
  else if dataField cw ≠ 0 then .error .unusedData
  else .ok i

/-- The decoder, by OP (R48). -/
def decode (p : Command) : Except DecodeError Instr :=
  match (opField p.cw).toNat with
  | 0x0 => .ok (.reserved0 (restField p.cw))
  | 0x1 => if rsvField p.cw = 0 then .ok (decodeRegWrite (addrField p.cw) (dataField p.cw) p.arg) else .error .reservedBits
  | 0x2 =>
    if rsvField p.cw ≠ 0 then .error .reservedBits
    else if dataField p.cw ≠ 0 then .error .unusedData
    else .ok (decodeRegRead (addrField p.cw))
  | 0x3 => noOperands p.cw (.render p.arg)
  | 0x4 => noOperands p.cw (.setOutputRate p.arg)
  | 0x5 => noOperands p.cw (.setClockRate p.arg)
  | 0x6 => noOperands p.cw .reset
  | 0x7 => noOperands p.cw .saveState
  | 0x8 => noOperands p.cw (.loadState p.blob)
  | 0x9 => if rsvField p.cw = 0 then .ok (.qEnqueue (addrField p.cw) (dataField p.cw) p.arg) else .error .reservedBits
  | 0xA => noOperands p.cw .qDequeue
  | 0xB => noOperands p.cw .qFront
  | 0xC => noOperands p.cw .qSize
  | 0xD => noOperands p.cw .qTotal
  | 0xE => .ok (.reservedE (restField p.cw))
  | _ => .ok (.reservedF (restField p.cw))

/-- Whether the format of an OP takes an ARG: CW-AD and CW-N (R45). -/
def takesArg (op : BitVec 4) : Bool :=
  match op.toNat with
  | 0x1 | 0x3 | 0x4 | 0x5 | 0x9 => true
  | _ => false

/-- The ARG a fault event records for a reserved word: 0 where the format has none (60_exceptions.md R130; log 8). -/
def recordedArg (p : Command) : Arg := if takesArg (opField p.cw) then p.arg else 0

/-- The words of an instruction (R45, R48): ARG is 0 and the blob absent where the format has none. -/
def encode : Instr → Command
  | .regWriteFreqLo0 data cycle => ⟨commandWord 0x1 0x00 data, cycle, none⟩
  | .regWriteFreqHi0 data cycle => ⟨commandWord 0x1 0x01 data, cycle, none⟩
  | .regWritePwLo0 data cycle => ⟨commandWord 0x1 0x02 data, cycle, none⟩
  | .regWritePwHi0 data cycle => ⟨commandWord 0x1 0x03 data, cycle, none⟩
  | .regWriteCtrl0 data cycle => ⟨commandWord 0x1 0x04 data, cycle, none⟩
  | .regWriteAd0 data cycle => ⟨commandWord 0x1 0x05 data, cycle, none⟩
  | .regWriteSr0 data cycle => ⟨commandWord 0x1 0x06 data, cycle, none⟩
  | .regWriteFreqLo1 data cycle => ⟨commandWord 0x1 0x07 data, cycle, none⟩
  | .regWriteFreqHi1 data cycle => ⟨commandWord 0x1 0x08 data, cycle, none⟩
  | .regWritePwLo1 data cycle => ⟨commandWord 0x1 0x09 data, cycle, none⟩
  | .regWritePwHi1 data cycle => ⟨commandWord 0x1 0x0A data, cycle, none⟩
  | .regWriteCtrl1 data cycle => ⟨commandWord 0x1 0x0B data, cycle, none⟩
  | .regWriteAd1 data cycle => ⟨commandWord 0x1 0x0C data, cycle, none⟩
  | .regWriteSr1 data cycle => ⟨commandWord 0x1 0x0D data, cycle, none⟩
  | .regWriteFreqLo2 data cycle => ⟨commandWord 0x1 0x0E data, cycle, none⟩
  | .regWriteFreqHi2 data cycle => ⟨commandWord 0x1 0x0F data, cycle, none⟩
  | .regWritePwLo2 data cycle => ⟨commandWord 0x1 0x10 data, cycle, none⟩
  | .regWritePwHi2 data cycle => ⟨commandWord 0x1 0x11 data, cycle, none⟩
  | .regWriteCtrl2 data cycle => ⟨commandWord 0x1 0x12 data, cycle, none⟩
  | .regWriteAd2 data cycle => ⟨commandWord 0x1 0x13 data, cycle, none⟩
  | .regWriteSr2 data cycle => ⟨commandWord 0x1 0x14 data, cycle, none⟩
  | .regWriteFcLo data cycle => ⟨commandWord 0x1 0x15 data, cycle, none⟩
  | .regWriteFcHi data cycle => ⟨commandWord 0x1 0x16 data, cycle, none⟩
  | .regWriteResFilt data cycle => ⟨commandWord 0x1 0x17 data, cycle, none⟩
  | .regWriteModeVol data cycle => ⟨commandWord 0x1 0x18 data, cycle, none⟩
  | .regWritePotx data cycle => ⟨commandWord 0x1 0x19 data, cycle, none⟩
  | .regWritePoty data cycle => ⟨commandWord 0x1 0x1A data, cycle, none⟩
  | .regWriteOsc3 data cycle => ⟨commandWord 0x1 0x1B data, cycle, none⟩
  | .regWriteEnv3 data cycle => ⟨commandWord 0x1 0x1C data, cycle, none⟩
  | .regWriteUnused1D data cycle => ⟨commandWord 0x1 0x1D data, cycle, none⟩
  | .regWriteUnused1E data cycle => ⟨commandWord 0x1 0x1E data, cycle, none⟩
  | .regWriteUnused1F data cycle => ⟨commandWord 0x1 0x1F data, cycle, none⟩
  | .regWriteFrom20 addr data cycle => ⟨commandWord 0x1 addr data, cycle, none⟩
  | .regWriteFrom40 addr data cycle => ⟨commandWord 0x1 addr data, cycle, none⟩
  | .regWriteFrom80 addr data cycle => ⟨commandWord 0x1 addr data, cycle, none⟩
  | .regReadFreqLo0 => ⟨commandWord 0x2 0x00 0, 0, none⟩
  | .regReadFreqHi0 => ⟨commandWord 0x2 0x01 0, 0, none⟩
  | .regReadPwLo0 => ⟨commandWord 0x2 0x02 0, 0, none⟩
  | .regReadPwHi0 => ⟨commandWord 0x2 0x03 0, 0, none⟩
  | .regReadCtrl0 => ⟨commandWord 0x2 0x04 0, 0, none⟩
  | .regReadAd0 => ⟨commandWord 0x2 0x05 0, 0, none⟩
  | .regReadSr0 => ⟨commandWord 0x2 0x06 0, 0, none⟩
  | .regReadFreqLo1 => ⟨commandWord 0x2 0x07 0, 0, none⟩
  | .regReadFreqHi1 => ⟨commandWord 0x2 0x08 0, 0, none⟩
  | .regReadPwLo1 => ⟨commandWord 0x2 0x09 0, 0, none⟩
  | .regReadPwHi1 => ⟨commandWord 0x2 0x0A 0, 0, none⟩
  | .regReadCtrl1 => ⟨commandWord 0x2 0x0B 0, 0, none⟩
  | .regReadAd1 => ⟨commandWord 0x2 0x0C 0, 0, none⟩
  | .regReadSr1 => ⟨commandWord 0x2 0x0D 0, 0, none⟩
  | .regReadFreqLo2 => ⟨commandWord 0x2 0x0E 0, 0, none⟩
  | .regReadFreqHi2 => ⟨commandWord 0x2 0x0F 0, 0, none⟩
  | .regReadPwLo2 => ⟨commandWord 0x2 0x10 0, 0, none⟩
  | .regReadPwHi2 => ⟨commandWord 0x2 0x11 0, 0, none⟩
  | .regReadCtrl2 => ⟨commandWord 0x2 0x12 0, 0, none⟩
  | .regReadAd2 => ⟨commandWord 0x2 0x13 0, 0, none⟩
  | .regReadSr2 => ⟨commandWord 0x2 0x14 0, 0, none⟩
  | .regReadFcLo => ⟨commandWord 0x2 0x15 0, 0, none⟩
  | .regReadFcHi => ⟨commandWord 0x2 0x16 0, 0, none⟩
  | .regReadResFilt => ⟨commandWord 0x2 0x17 0, 0, none⟩
  | .regReadModeVol => ⟨commandWord 0x2 0x18 0, 0, none⟩
  | .regReadPotx => ⟨commandWord 0x2 0x19 0, 0, none⟩
  | .regReadPoty => ⟨commandWord 0x2 0x1A 0, 0, none⟩
  | .regReadOsc3 => ⟨commandWord 0x2 0x1B 0, 0, none⟩
  | .regReadEnv3 => ⟨commandWord 0x2 0x1C 0, 0, none⟩
  | .regReadUnused1D => ⟨commandWord 0x2 0x1D 0, 0, none⟩
  | .regReadUnused1E => ⟨commandWord 0x2 0x1E 0, 0, none⟩
  | .regReadUnused1F => ⟨commandWord 0x2 0x1F 0, 0, none⟩
  | .regReadFrom20 addr => ⟨commandWord 0x2 addr 0, 0, none⟩
  | .regReadFrom40 addr => ⟨commandWord 0x2 addr 0, 0, none⟩
  | .regReadFrom80 addr => ⟨commandWord 0x2 addr 0, 0, none⟩
  | .render count => ⟨commandWord 0x3 0 0, count, none⟩
  | .setOutputRate rate => ⟨commandWord 0x4 0 0, rate, none⟩
  | .setClockRate rate => ⟨commandWord 0x5 0 0, rate, none⟩
  | .reset => ⟨commandWord 0x6 0 0, 0, none⟩
  | .saveState => ⟨commandWord 0x7 0 0, 0, none⟩
  | .loadState blob => ⟨commandWord 0x8 0 0, 0, blob⟩
  | .qDequeue => ⟨commandWord 0xA 0 0, 0, none⟩
  | .qFront => ⟨commandWord 0xB 0 0, 0, none⟩
  | .qSize => ⟨commandWord 0xC 0 0, 0, none⟩
  | .qTotal => ⟨commandWord 0xD 0 0, 0, none⟩
  | .qEnqueue addr data delta => ⟨commandWord 0x9 addr data, delta, none⟩
  | .reserved0 rest => ⟨rest ++ 0x0#4, 0, none⟩
  | .reservedE rest => ⟨rest ++ 0xE#4, 0, none⟩
  | .reservedF rest => ⟨rest ++ 0xF#4, 0, none⟩

/-- The command whose bits are the low `nbits` bits of `w`, bit 0 the least significant bit of CW: CW is bits 31:0, ARG
the 64 bits above it, and no blob (log 9). -/
def commandOfBits (nbits w : Nat) : Command :=
  ⟨BitVec.ofNat 32 (w % 2 ^ nbits), BitVec.ofNat 64 (w % 2 ^ nbits / 2 ^ 32), none⟩

/-- What the decoder reads from an instruction numbered as spec/opcode_table.json numbers its bits. -/
def decodeTableWord (nbits w : Nat) : Option Instr :=
  match decode (commandOfBits nbits w) with
  | .ok i => some i
  | .error _ => none

end Sys2Proof
end

