-- ==== Sys2Proof/Machine/State.lean ====
section
/-! DEFINITION. The machine's state: the chip of 10_state.md, its fault record and diagnostic output, and what the model needs
beside them to be a machine that steps (the commands still to come, what the last command returned, the counter of free
bytes). -/

namespace Sys2Proof.Machine

/-- The fault codes (60_exceptions.md R130); their numbers are `FaultCode.value`. -/
inductive FaultCode where
  /-- the command word is reserved (30_encoding.md R50) -/
  | reservedCommand
  /-- Q_FRONT on an empty queue (40_queue.md R62) -/
  | frontEmpty
  /-- Q_ENQUEUE with ARG < 0 (40_queue.md R60) -/
  | negativeDelta
  /-- LOAD_STATE of a blob that is not valid (46_control.md R126) -/
  | badStateBlob
deriving DecidableEq, Repr

/-- One event of the fault record, `{code, CW, ARG}` (60_exceptions.md R131). -/
structure FaultEvent where
  code : FaultCode
  cw : CommandWord
  arg : Arg
deriving DecidableEq, Repr

/-- One event of the diagnostic output (60_exceptions.md R134). -/
inductive DiagEvent where
  /-- `{QUEUE_OVERFLOW, addr, value}`, the only kind: a write was dropped -/
  | queueOverflow (addr value : Byte)
deriving DecidableEq, Repr

/-- The status codes (60_exceptions.md R129); their numbers are `Status.value`. -/
inductive Status where
  | ok
  | configInvalid
deriving DecidableEq, Repr

/-- What a command returns (30_encoding.md R47). The model's own field holds the last one (log 3). -/
inductive Result where
  /-- nothing: no command has run, or the command has no result -/
  | none
  /-- SET_OUTPUT_RATE, SET_CLOCK_RATE -/
  | status (code : Status)
  /-- REG_READ -/
  | byte (data : Byte)
  /-- Q_SIZE, Q_TOTAL: the number their rules return, exact (40_queue.md R63, R64), and the 64-bit value that 30_encoding.md
  R47 returns it as (log 11) -/
  | value (exact : Nat) (word : BitVec 64)
  /-- Q_FRONT -/
  | entry (e : Entry)
  /-- SAVE_STATE -/
  | blob (b : Blob)
  /-- RENDER: the output stream of that command, in the order emitted (20_memory.md R35) -/
  | samples (stream : List Sample)
  /-- the command raised a fault: no result but the event (60_exceptions.md R128) -/
  | faulted (event : FaultEvent)
deriving DecidableEq, Repr

/-- Reasons for the machine to stop with a fault: none. Nothing the chip does stops it (60_exceptions.md R128, R131): a fault of
the spec appends an event to the fault record and the chip goes on, so it is a next state here (log 7; safe: no run is
cut short, and every claim must hold of faulted commands too). -/
inductive Fault : Type
deriving DecidableEq, Repr

/-- Reasons to give an instruction no meaning. -/
inductive Refusal where
  /-- Raised by `exec` alone, for an instruction whose meaning is not written yet; safe. No arm raises it now. -/
  | notModelled (mnemonic : String)
deriving DecidableEq, Repr

/-- The machine. Plain data. -/
structure State where
  /-- every field of 10_state.md but the fault record -/
  chip : Chip
  /-- the sticky fault record, oldest first (10_state.md R25, 60_exceptions.md R131) -/
  fault : List FaultEvent
  /-- the diagnostic output, oldest first (60_exceptions.md R134; log 12) -/
  diag : List DiagEvent
  /-- MODEL's own: what the last command returned (log 3) -/
  result : Result
  /-- MODEL's own: the commands issued and not yet executed, next first (20_memory.md R37; log 1) -/
  pending : List Command
  /-- MODEL's own: how many free bytes have been drawn (00_scope.md R11; log 4) -/
  drawn : Nat
deriving DecidableEq, Repr

/-- What a step or a meaning answers. -/
abbrev Out := Host.Outcome State Fault Refusal

/-- A voice at power-on and after RESET (10_state.md R20, 70_reset_and_hazards.md R144). -/
def Voice.initial : Voice :=
  { acc := 0, lfsr := lfsrSeed, env := .idle, E := 0, exp := 0, lo := 0, ref := 0 }

/-- A chip right after power-on with the given variant and capacity (70_reset_and_hazards.md R143). -/
def Chip.initial (variant : Variant) (qcap : Nat) : Chip :=
  { variant := variant
    qcap := qcap
    sampleRate := 0
    clockRate := 0
    regs := Vector.replicate 25 0
    latch := 0
    voices := ⟨Voice.initial, Voice.initial, Voice.initial⟩
    queue := []
    frac := 0
    lastWriteCycle := 0
    overflowCount := 0 }

/-- A machine right after power-on: an empty fault record and diagnostic output; nothing returned, issued or drawn yet. -/
def State.powered (variant : Variant) (qcap : Nat) : State :=
  { chip := Chip.initial variant qcap
    fault := []
    diag := []
    result := .none
    pending := []
    drawn := 0 }

/-- The machine right after power-on (10_state.md section 6, the power-on column), for the variant and the capacity of
Config (log 6). The state after a RESET command of a running chip is `Machine.execReset`'s. -/
def State.reset : State := State.powered Config.powerOnVariant Config.queueCapacity

end Sys2Proof.Machine
end

