-- ==== Sys2Proof/Machine/Arith.lean ====
section
/-! DEFINITION. The arithmetic of the notation (00_scope.md R10): shifts, wraps and clamps on mathematical integers. -/

namespace Sys2Proof.Machine

/-- `asr(x, n)`, `floor(x / 2^n)` (R10). -/
def asr (x : Int) (n : Nat) : Int := x / (2 : Int) ^ n

/-- `wrap32(x)` of a non-negative integer (R10). -/
def wrap32 (x : Nat) : BitVec 32 := BitVec.ofNat 32 x

/-- `wrap32s(x)`: the signed 32-bit value congruent to x (R10). -/
def wrap32s (x : Int) : Integrator := BitVec.ofInt 32 x

/-- `clamp16(x)` (R10), as a sample. -/
def clamp16 (x : Int) : Sample := BitVec.ofInt 16 (min 32767 (max (-32768) x))

/-- The two bytes of a sample in a host's byte buffer, low byte first (20_memory.md R31). -/
def sampleBytes (x : Sample) : List Byte := [x.extractLsb' 0 8, x.extractLsb' 8 8]

/-- Whether an integer is an unsigned number of n bits. -/
def fitsUnsigned (n : Nat) (x : Int) : Bool := decide (0 ≤ x) && decide (x < (2 : Int) ^ n)

/-- Whether an integer is a signed (two's complement) number of n + 1 bits. -/
def fitsSigned (n : Nat) (x : Int) : Bool := decide (-((2 : Int) ^ n) ≤ x) && decide (x < (2 : Int) ^ n)

end Sys2Proof.Machine
end

