-- ==== Sys2Proof/Machine/Calibration.lean ====
section
/-! DEFINITION. The calibration of a variant (00_scope.md R9): for a chip, the uninterpreted constants of Config; for TC and
TC-A, the values of 95_test_vectors.md section 1, which are test data and not chip data (log 5). -/

namespace Sys2Proof.Machine

/-- The spec's default frequency step, `wrap32((f * 256 * c) div r)` (43_voice.md R87). -/
def defaultFreqStep (f : BitVec 16) (clockRate sampleRate : Nat) : BitVec 32 :=
  wrap32 (f.toNat * 256 * clockRate / sampleRate)

/-- `freqStep(f, clockRate, sampleRate)` (R9, R87). -/
def freqStep (variant : Variant) (f : BitVec 16) (clockRate sampleRate : Nat) : BitVec 32 :=
  match variant with
  | .chip n => Config.freqStep n f clockRate sampleRate
  | .tc | .tcA => defaultFreqStep f clockRate sampleRate

/-- `attackStep[i]` at the configured rates (R9, 44_envelope.md R104). -/
def attackStep (variant : Variant) (sampleRate clockRate : Nat) (i : BitVec 4) : EnvCounter :=
  match variant with
  | .chip n => Config.attackStep n sampleRate clockRate i
  | .tc => 0x60000000#31 >>> i.toNat
  | .tcA => 0x00010000#31 >>> i.toNat

/-- `decayStep[i]` at the configured rates, shared by Decay and Release (R9, 44_envelope.md R102). -/
def decayStep (variant : Variant) (sampleRate clockRate : Nat) (i : BitVec 4) : EnvCounter :=
  match variant with
  | .chip n => Config.decayStep n sampleRate clockRate i
  | .tc | .tcA => 0x20000000#31 >>> i.toNat

/-- The rows of a table whose threshold lies strictly below every threshold kept before it (log 13). -/
def keepDecreasing : Option EnvCounter → List (EnvCounter × Fin 32) → List (EnvCounter × Fin 32)
  | _, [] => []
  | none, row :: rows => row :: keepDecreasing (some row.1) rows
  | some bound, row :: rows =>
    if row.1 < bound then row :: keepDecreasing (some row.1) rows else keepDecreasing (some bound) rows

/-- The decay lookup table `(lutThr[j], lutShift[j])`, thresholds strictly decreasing; its length is `LUT_K` (R9,
44_envelope.md R108). -/
def decayTable (variant : Variant) : List (EnvCounter × Fin 32) :=
  match variant with
  | .chip n => keepDecreasing none (Config.rawDecayTable n)
  | .tc | .tcA =>
    [(0x2E800000#31, 1), (0x1B000000#31, 2), (0x0D000000#31, 3), (0x07000000#31, 4), (0x03000000#31, 5)]

/-- `LUT_K` (R9). -/
def lutK (variant : Variant) : Nat := (decayTable variant).length

/-- `Dy(fc, sampleRate)`, signed Q16 (R9, 45_filter_mix.md R113). -/
def filterDy (variant : Variant) (fc : BitVec 11) (sampleRate : Nat) : Int :=
  match variant with
  | .chip n => (Config.filterDy n fc sampleRate).toInt
  | .tc | .tcA => (fc.toNat + 1) * 16

/-- `ResDy(res, fc, sampleRate)`, signed Q16 (R9, 45_filter_mix.md R113). -/
def filterResDy (variant : Variant) (res : BitVec 4) (fc : BitVec 11) (sampleRate : Nat) : Int :=
  match variant with
  | .chip n => (Config.filterResDy n res fc sampleRate).toInt
  | .tc | .tcA => 0x20000 - res.toNat * 0x1000

/-- `OUT_SHIFT` (R9, 45_filter_mix.md R118). -/
def outShift (variant : Variant) : Nat :=
  match variant with
  | .chip n => (Config.outShift n).val
  | .tc | .tcA => 6

/-- `NOISE_SHIFT_PER_WRAP` (R9, 43_voice.md R91). -/
def noiseShiftPerWrap (variant : Variant) : Nat :=
  match variant with
  | .chip n => (Config.noiseShiftPerWrap n).val
  | .tc | .tcA => 1

end Sys2Proof.Machine
end

