-- ==== Sys2Proof/Machine/Ops.lean ====
section
/-! DEFINITION. The named operations the meanings share: register and voice access, the queue's primitives (40_queue.md R57 to
R59), returning a result, a free byte, and raising a fault (60_exceptions.md R131). -/

namespace Sys2Proof.Machine

/-! ## Registers and voices -/

/-- `Reg[a]` (10_state.md R16). -/
def regAt (c : Chip) (a : Fin 25) : Byte := c.regs.get a

/-- `Reg[a] <- d` (10_state.md R16): the whole byte, unused bits included. -/
def setReg (c : Chip) (a : Fin 25) (d : Byte) : Chip := { c with regs := c.regs.set a d }

/-- The address of register k of voice v, `7v + k` (10_state.md R17). -/
def voiceAddr (v : VoiceId) (k : Fin 7) : Fin 25 := ⟨7 * v + k, by omega⟩

/-- One of the three voices. -/
def Voices.at (vs : Voices) (v : VoiceId) : Voice :=
  match v with
  | 0 => vs.v0
  | 1 => vs.v1
  | 2 => vs.v2

/-- Every voice replaced by a function of its number and itself. -/
def Voices.update (vs : Voices) (f : VoiceId → Voice → Voice) : Voices := ⟨f 0 vs.v0, f 1 vs.v1, f 2 vs.v2⟩

/-- `V[v]` (10_state.md R20). -/
def voiceAt (c : Chip) (v : VoiceId) : Voice := c.voices.at v

/-- Every voice of the chip replaced by a function of its number and itself. -/
def updateVoices (c : Chip) (f : VoiceId → Voice → Voice) : Chip := { c with voices := c.voices.update f }

/-- One voice changed. -/
def updateVoice (c : Chip) (v : VoiceId) (f : Voice → Voice) : Chip :=
  updateVoices c (fun u x => if u = v then f x else x)

/-! ## The queue -/

/-- `POPFRONT()`, as what it leaves (40_queue.md R58). -/
def popFront (c : Chip) : Chip := { c with queue := c.queue.tail }

/-- `DECFRONT(x)` (40_queue.md R59). -/
def decFront (c : Chip) (x : Nat) : Chip :=
  match c.queue with
  | [] => c
  | e :: rest => { c with queue := { e with delta := e.delta - x } :: rest }

/-- The sum of the deltas, in tau (40_queue.md R64). -/
def totalDelta (q : List Entry) : Nat := (q.map Entry.delta).sum

/-! ## The machine around the chip -/

/-- Replace the chip. -/
def State.setChip (s : State) (c : Chip) : State := { s with chip := c }

/-- The command ends with a result (30_encoding.md R47). -/
def State.finish (s : State) (r : Result) : State := { s with result := r }

/-- `ENQUEUE(e)` (40_queue.md R57): append at the tail, or drop the incoming entry when the queue is full. -/
def enqueue (s : State) (e : Entry) : State :=
  if s.chip.queue.length = s.chip.qcap then
    { s with
      chip := { s.chip with overflowCount := s.chip.overflowCount + 1 }
      diag := s.diag ++ [.queueOverflow e.addr e.value] }
  else
    s.setChip { s.chip with queue := s.chip.queue ++ [e] }

/-- A number as a result: the number itself, exact, and as a 64-bit value (30_encoding.md R47). That value is the number where
64 bits hold it, else the free value `wide`, since the spec states no 64-bit value for it (log 11). -/
def value64 (n : Nat) (wide : BitVec 64) : Result := .value n (if n < 2 ^ 64 then BitVec.ofNat 64 n else wide)

/-- Return a byte that `draw()` leaves free (00_scope.md R11; log 4). -/
def returnDraw (s : State) : State :=
  { s with drawn := s.drawn + 1, result := .byte (Config.draw s.drawn) }

/-! ## Faults and statuses

`raise Fault(code)` is the chip's whole exception entry: it saves nothing but the event, changes no mode and transfers control
nowhere, and there is no return (60_exceptions.md R136). -/

/-- The number of a fault code (60_exceptions.md R130). -/
def FaultCode.value : FaultCode → Nat
  | .reservedCommand => 1
  | .frontEmpty => 2
  | .negativeDelta => 3
  | .badStateBlob => 4

/-- The number of a status code (60_exceptions.md R129). -/
def Status.value : Status → Nat
  | .ok => 0
  | .configInvalid => 1

/-- `raise Fault(code)` (00_scope.md R11, 60_exceptions.md R131): the event is appended to the record and is all the issuer
sees; nothing else changes, and the chip goes on with the next command (log 7). -/
def raiseFault (s : State) (code : FaultCode) (cw : CommandWord) (arg : Arg) : State :=
  { s with fault := s.fault ++ [⟨code, cw, arg⟩], result := .faulted ⟨code, cw, arg⟩ }

/-- The next command of the agents' order, and the machine without it (20_memory.md R37; log 1). -/
def fetch (s : State) : Option (Command × State) :=
  match s.pending with
  | [] => none
  | p :: rest => some (p, { s with pending := rest })

/-- A command whose word is reserved but has no row of the opcode table (30_encoding.md R50; 60_exceptions.md R132). -/
def rejectCommand (s : State) (p : Command) : State := raiseFault s .reservedCommand p.cw (recordedArg p)

end Sys2Proof.Machine
end

