-- ==== Sys2Proof/Machine/QueueCommands.lean ====
section
/-! DEFINITION. The meanings of the five queue commands (40_queue.md R60 to R64). -/

namespace Sys2Proof.Machine

/-- Q_ENQUEUE (R60): a negative delta faults; the latch, the baseline and the registers are not touched. -/
def execQEnqueue (addr data : Byte) (delta : Arg) (s : State) : Out :=
  if delta.toInt < 0 then .next (raiseFault s .negativeDelta (commandWord 0x9 addr data) delta)
  else .next ((enqueue s ⟨addr, data, delta.toInt.toNat⟩).finish .none)

/-- Q_DEQUEUE (R61): the front entry is discarded; nothing on an empty queue. -/
def execQDequeue (s : State) : Out := .next ((s.setChip (popFront s.chip)).finish .none)

/-- Q_FRONT (R62): a fault on an empty queue. -/
def execQFront (s : State) : Out :=
  match s.chip.queue with
  | [] => .next (raiseFault s .frontEmpty (commandWord 0xB 0 0) 0)
  | e :: _ => .next (s.finish (.entry e))

/-- Q_SIZE (R63): the number of entries, and as a 64-bit value (log 11). -/
def execQSize (s : State) : Out :=
  .next (s.finish (value64 s.chip.queue.length (Config.wideSize s.chip.queue.length)))

/-- Q_TOTAL (R64): the exact sum, and as a 64-bit value (log 11). -/
def execQTotal (s : State) : Out :=
  .next (s.finish (value64 (totalDelta s.chip.queue) (Config.wideTotal (s.chip.queue.map Entry.delta))))

end Sys2Proof.Machine
end

