-- ==== Sys2Proof/Machine/Operands.lean ====
section
/-! DEFINITION. The derived fields of 10_state.md R18: pure functions of the register shadow and the configuration, read on
demand (R19). -/

namespace Sys2Proof.Machine

/-- `FREQ(v)`, 16 bits. -/
def freq (c : Chip) (v : VoiceId) : BitVec 16 := regAt c (voiceAddr v 1) ++ regAt c (voiceAddr v 0)

/-- `PW(v)`, 12 bits; bits 7:4 of PW_HI are not read. -/
def pulseWidth (c : Chip) (v : VoiceId) : BitVec 12 :=
  (regAt c (voiceAddr v 3)).extractLsb' 0 4 ++ regAt c (voiceAddr v 2)

/-- `CTRL(v)`. -/
def ctrl (c : Chip) (v : VoiceId) : Byte := regAt c (voiceAddr v 4)

/-- `GATE(v)`. -/
def gate (c : Chip) (v : VoiceId) : Bool := (ctrl c v).getLsbD 0

/-- `SYNC(v)`. -/
def sync (c : Chip) (v : VoiceId) : Bool := (ctrl c v).getLsbD 1

/-- `RING(v)`. -/
def ring (c : Chip) (v : VoiceId) : Bool := (ctrl c v).getLsbD 2

/-- `TEST(v)`. -/
def test (c : Chip) (v : VoiceId) : Bool := (ctrl c v).getLsbD 3

/-- `TRI(v)`. -/
def triSelected (c : Chip) (v : VoiceId) : Bool := (ctrl c v).getLsbD 4

/-- `SAW(v)`. -/
def sawSelected (c : Chip) (v : VoiceId) : Bool := (ctrl c v).getLsbD 5

/-- `PULSE(v)`. -/
def pulseSelected (c : Chip) (v : VoiceId) : Bool := (ctrl c v).getLsbD 6

/-- `NOISE(v)`. -/
def noiseSelected (c : Chip) (v : VoiceId) : Bool := (ctrl c v).getLsbD 7

/-- `ATK(v)`. -/
def attackRate (c : Chip) (v : VoiceId) : BitVec 4 := (regAt c (voiceAddr v 5)).extractLsb' 4 4

/-- `DCY(v)`. -/
def decayRate (c : Chip) (v : VoiceId) : BitVec 4 := (regAt c (voiceAddr v 5)).extractLsb' 0 4

/-- `STN(v)`. -/
def sustainNibble (c : Chip) (v : VoiceId) : BitVec 4 := (regAt c (voiceAddr v 6)).extractLsb' 4 4

/-- `RLS(v)`. -/
def releaseRate (c : Chip) (v : VoiceId) : BitVec 4 := (regAt c (voiceAddr v 6)).extractLsb' 0 4

/-- `FC`, 11 bits; bits 7:3 of FC_LO are not read. -/
def cutoff (c : Chip) : BitVec 11 := regAt c 0x16 ++ (regAt c 0x15).extractLsb' 0 3

/-- `RES`. -/
def resonance (c : Chip) : BitVec 4 := (regAt c 0x17).extractLsb' 4 4

/-- `FILT(v)`. -/
def filtered (c : Chip) (v : VoiceId) : Bool := (regAt c 0x17).getLsbD v

/-- `VOL`. -/
def volume (c : Chip) : BitVec 4 := (regAt c 0x18).extractLsb' 0 4

/-- `LP`. -/
def lowPass (c : Chip) : Bool := (regAt c 0x18).getLsbD 4

/-- `BP`. -/
def bandPass (c : Chip) : Bool := (regAt c 0x18).getLsbD 5

/-- `HP`. -/
def highPass (c : Chip) : Bool := (regAt c 0x18).getLsbD 6

/-- `OFF3`. -/
def off3 (c : Chip) : Bool := (regAt c 0x18).getLsbD 7

/-- `STEP(v)` (43_voice.md R87). -/
def step32 (c : Chip) (v : VoiceId) : BitVec 32 := freqStep c.variant (freq c v) c.clockRate c.sampleRate

/-- `SUSTHR(v) = (STN(v) * 17) << 23` (44_envelope.md R101). -/
def sustainThreshold (c : Chip) (v : VoiceId) : EnvCounter :=
  BitVec.ofNat 31 (((sustainNibble c v).toNat * 17) <<< 23)

/-- `L(v)`, the top 8 bits of the envelope counter (44_envelope.md R101). -/
def envLevel (c : Chip) (v : VoiceId) : Byte := (voiceAt c v).E.extractLsb' 23 8

/-- The sync and ring source of voice v, `(v + 2) mod 3` (43_voice.md R92). -/
def sourceVoice (v : VoiceId) : VoiceId := v + 2

end Sys2Proof.Machine
end

