-- ==== Sys2Proof/Machine/Flags.lean ====
section
/-! DEFINITION. The conditions the rules test. The chip has no condition codes (10_state.md R21): what is flag-like is the
active condition (R8, R15), the wraparound flag of a tick (43_voice.md R88), the filter-type change (41_bus_interface.md R75)
and the envelope state that a gate event moves (44_envelope.md R109). -/

namespace Sys2Proof.Machine

/-- The chip is active: both rates are set (00_scope.md R8). -/
def active (c : Chip) : Bool := decide (0 < c.sampleRate) && decide (0 < c.clockRate)

/-- `wrapped(v)` of pass 1 (43_voice.md R88, R89): the new accumulator is below the step, unsigned; never under TEST. -/
def wrapped (c : Chip) (v : VoiceId) : Bool :=
  !test c v && decide ((voiceAt c v).acc + step32 c v < step32 c v)

/-- LP, BP or HP differs between two values of MODE_VOL (41_bus_interface.md R75). -/
def filterTypeChanged (old new : Byte) : Bool := (old ^^^ new).extractLsb' 4 3 != 0

/-- `GATE_EVENT` on one voice (44_envelope.md R109): the GATE bit before and after the write. -/
def gateEvent (old new : Bool) (x : Voice) : Voice :=
  if new then
    if old = false ∨ x.env = .sustain ∨ x.env = .idle then { x with env := .attack, exp := 0 } else x
  else
    match x.env with
    | .attack | .decay | .sustain => { x with env := .release }
    | .release | .idle => x

end Sys2Proof.Machine
end

