-- ==== Sys2Proof/Machine/Oscillator.lean ====
section
/-! DEFINITION. The oscillator side of a voice (43_voice.md R88 to R98): accumulator, noise shift register, hard sync,
waveforms and ring modulation. -/

namespace Sys2Proof.Machine

/-- One shift of the noise register: bit 22 xor bit 17 enters at bit 0 (R90). -/
def lfsrStep (r : Noise) : Noise :=
  r.extractLsb' 0 22 ++ BitVec.ofBool (r.getLsbD 22 ^^ r.getLsbD 17)

/-- k shifts. -/
def lfsrSteps : Nat → Noise → Noise
  | 0, r => r
  | k + 1, r => lfsrSteps k (lfsrStep r)

/-- `LFSR_SHIFT(r, k)`: k shifts, then reseed a register that is 0 (R90). -/
def lfsrShift (r : Noise) (k : Nat) : Noise :=
  if lfsrSteps k r = 0 then lfsrSeed else lfsrSteps k r

/-- `ADVANCE(v)`, pass 1 for one voice (R88, R89). -/
def advance (c : Chip) (v : VoiceId) (x : Voice) : Voice :=
  if test c v then { x with acc := 0, lfsr := lfsrSeed }
  else
    { x with
      acc := x.acc + step32 c v
      lfsr := if wrapped c v then lfsrShift x.lfsr (noiseShiftPerWrap c.variant) else x.lfsr }

/-- `SYNC_PASS()` for the destination voice d (R93): `wrap` are pass 1's flags and `snap` the accumulators after pass 1. -/
def syncVoice (c : Chip) (wrap : VoiceId → Bool) (snap : VoiceId → Phase) (d : VoiceId) (x : Voice) : Voice :=
  if wrap (sourceVoice d) && sync c d && !test c d then
    { x with acc := 0, lfsr := lfsrShift x.lfsr ((snap (sourceVoice d)).toNat >>> 28) }
  else x

/-- `TRIWAVE(v)` with ring modulation (R94). -/
def triWave (c : Chip) (v : VoiceId) : Byte :=
  let a := (voiceAt c v).acc
  let t : Byte := a.extractLsb' 23 8
  let base := if a.getLsbD 31 then 0xFF - t else t
  if ring c v && (voiceAt c (sourceVoice v)).acc.getLsbD 31 then base ^^^ 0xFF else base

/-- `SAWWAVE(v)` (R95). -/
def sawWave (c : Chip) (v : VoiceId) : Byte := (voiceAt c v).acc.extractLsb' 24 8

/-- `PULSEWAVE(v)` (R96). -/
def pulseWave (c : Chip) (v : VoiceId) : Byte :=
  if pulseWidth c v ≤ (voiceAt c v).acc.extractLsb' 20 12 then 0xFF else 0x00

/-- `NOISEWAVE(v)`: bits 22, 20, 16, 13, 11, 7, 4, 2 of the noise register, bit 22 the most significant (R97). -/
def noiseWave (c : Chip) (v : VoiceId) : Byte :=
  let r := (voiceAt c v).lfsr
  r.extractLsb' 22 1 ++ r.extractLsb' 20 1 ++ r.extractLsb' 16 1 ++ r.extractLsb' 13 1 ++
    r.extractLsb' 11 1 ++ r.extractLsb' 7 1 ++ r.extractLsb' 4 1 ++ r.extractLsb' 2 1

/-- The generators selected by CTRL(v), in the order of R98. -/
def selectedWaves (c : Chip) (v : VoiceId) : List Byte :=
  (if triSelected c v then [triWave c v] else []) ++ (if sawSelected c v then [sawWave c v] else []) ++
    (if pulseSelected c v then [pulseWave c v] else []) ++ (if noiseSelected c v then [noiseWave c v] else [])

/-- `WAVE8(v)`: the AND of the selected generators, 0 when none is selected (R98). -/
def wave8 (c : Chip) (v : VoiceId) : Byte :=
  match selectedWaves c v with
  | [] => 0
  | w :: ws => ws.foldl (· &&& ·) w

end Sys2Proof.Machine
end

