-- ==== Sys2Proof/Machine/Envelope.lean ====
section
/-! DEFINITION. The envelope step of a tick (44_envelope.md R102 to R108). -/

namespace Sys2Proof.Machine

/-- `SH(v)`: the current shift of the decay lookup table, 0 before the first threshold (R102). An index beyond the table,
which no run reaches (R111), reads as 0 (log 14). -/
def decayShift (variant : Variant) (exp : Nat) : Nat :=
  match exp with
  | 0 => 0
  | j + 1 => ((decayTable variant)[j]?.map (fun row => row.2.val)).getD 0

/-- Attack (R104). -/
def attackTick (c : Chip) (v : VoiceId) (x : Voice) : Voice :=
  let e := x.E.toNat + (attackStep c.variant c.sampleRate c.clockRate (attackRate c v)).toNat
  if envMax.toNat ≤ e then { x with E := envMax, env := .decay } else { x with E := BitVec.ofNat 31 e }

/-- The base step of a rate nibble divided by the table's current shift (R102). -/
def fallStep (c : Chip) (rate : BitVec 4) (x : Voice) : Nat :=
  (decayStep c.variant c.sampleRate c.clockRate rate).toNat >>> decayShift c.variant x.exp

/-- Decay (R105). -/
def decayTick (c : Chip) (v : VoiceId) (x : Voice) : Voice :=
  let e : Int := x.E.toNat - fallStep c (decayRate c v) x
  if e ≤ (sustainThreshold c v).toNat then { x with E := sustainThreshold c v, env := .sustain }
  else { x with E := BitVec.ofInt 31 e }

/-- Release (R106). -/
def releaseTick (c : Chip) (v : VoiceId) (x : Voice) : Voice :=
  let e : Int := x.E.toNat - fallStep c (releaseRate c v) x
  if e ≤ 0 then { x with E := 0, env := .idle } else { x with E := BitVec.ofInt 31 e }

/-- The rule of the voice's current state (R103); Sustain and Idle hold (R107). -/
def envStateTick (c : Chip) (v : VoiceId) (x : Voice) : Voice :=
  match x.env with
  | .attack => attackTick c v x
  | .decay => decayTick c v x
  | .release => releaseTick c v x
  | .sustain | .idle => x

/-- Whether a voice stands in Decay or Release below the threshold its index points at (R108). -/
def belowThreshold (variant : Variant) (x : Voice) : Bool :=
  match x.env, (decayTable variant)[x.exp]? with
  | .decay, some row | .release, some row => decide (x.E < row.1)
  | _, _ => false

/-- The lookup-table index, at most one step a tick (R108). -/
def lutTick (variant : Variant) (x : Voice) : Voice :=
  if belowThreshold variant x then { x with exp := x.exp + 1 } else x

/-- `ENV_STEP(v)` (R103). -/
def envStep (c : Chip) (v : VoiceId) (x : Voice) : Voice := lutTick c.variant (envStateTick c v x)

end Sys2Proof.Machine
end

