-- ==== Sys2Proof/Machine/Filter.lean ====
section
/-! DEFINITION. Voice scaling, the filter and the output mix (45_filter_mix.md R112 to R118). -/

namespace Sys2Proof.Machine

/-- `VOICE_OUT(v) = (WAVE8(v) - 128) * L(v)` (R112). -/
def voiceOut (c : Chip) (v : VoiceId) : Int := ((wave8 c v).toNat - 128 : Int) * (envLevel c v).toNat

/-- What the filter leaves in a routed voice (R114) for the input x: the high-pass value and the new integrators. -/
structure FilterStep where
  hp : Integrator
  ref : Integrator
  lo : Integrator
deriving DecidableEq, Repr

/-- The state-variable filter on one voice (R114). -/
def filterStep (dy resDy x : Int) (lo ref : Integrator) : FilterStep :=
  let hp := wrap32s (x - lo.toInt - asr (ref.toInt * resDy) 16)
  let ref' := wrap32s (ref.toInt + asr (hp.toInt * dy) 16)
  { hp := hp, ref := ref', lo := wrap32s (lo.toInt + asr (ref'.toInt * dy) 16) }

/-- The filter step of voice v of the chip for the input x, with the coefficients of the tick (R113, R114). -/
def filterVoice (c : Chip) (x : Int) (v : VoiceId) : FilterStep :=
  filterStep (filterDy c.variant (cutoff c) c.sampleRate) (filterResDy c.variant (resonance c) (cutoff c) c.sampleRate)
    x (voiceAt c v).lo (voiceAt c v).ref

/-- `y(v)`: the sum of the selected filter outputs (R114). -/
def filterOut (c : Chip) (f : FilterStep) : Int :=
  (if lowPass c then f.lo.toInt else 0) + (if bandPass c then f.ref.toInt else 0) +
    (if highPass c then f.hp.toInt else 0)

/-- The integrators after the tick: a routed voice's step, an unrouted voice's hold (R114, R115). -/
def filterTick (c : Chip) (v : VoiceId) (x : Voice) : Voice :=
  if filtered c v then
    { x with lo := (filterVoice c (voiceOut c v) v).lo, ref := (filterVoice c (voiceOut c v) v).ref }
  else x

/-- What voice v adds to the mix (R117). -/
def mixTerm (c : Chip) (v : VoiceId) : Int :=
  if filtered c v then filterOut c (filterVoice c (voiceOut c v) v)
  else if v = 2 ∧ off3 c then 0
  else voiceOut c v

/-- The output sample of a sum (R118). -/
def outputSample (c : Chip) (sum : Int) : Sample := clamp16 (asr sum (outShift c.variant) * (volume c).toNat)

end Sys2Proof.Machine
end

