-- ==== Sys2Proof/Machine/Tick.lean ====
section
/-! DEFINITION. The per-sample tick (43_voice.md R86). -/

namespace Sys2Proof.Machine

/-- Pass 1: every voice's accumulator and noise register (R86, R88, R89). -/
def advancePass (c : Chip) : Chip := updateVoices c (advance c)

/-- Pass 2: hard sync, from pass 1's flags and accumulators; `c` is the chip before pass 1 (R93). -/
def syncPass (c : Chip) : Chip :=
  updateVoices (advancePass c) (syncVoice c (wrapped c) (fun u => (voiceAt (advancePass c) u).acc))

/-- The voices after the envelope step (R86). -/
def envPass (c : Chip) : Chip := updateVoices (syncPass c) (envStep c)

/-- The chip after the filter: what a tick leaves (R86). -/
def tickChip (c : Chip) : Chip := updateVoices (envPass c) (filterTick (envPass c))

/-- The sample of the tick (R86, R117, R118). -/
def tickSample (c : Chip) : Sample :=
  outputSample c (mixTerm (envPass c) 0 + mixTerm (envPass c) 1 + mixTerm (envPass c) 2)

/-- k ticks: the samples in the order emitted, and the chip after them. -/
def ticks : Nat → Chip → List Sample × Chip
  | 0, c => ([], c)
  | k + 1, c => (tickSample c :: (ticks k (tickChip c)).1, (ticks k (tickChip c)).2)

end Sys2Proof.Machine
end

