-- ==== Sys2Proof/Machine/Apply.lean ====
section
/-! DEFINITION. `APPLY(a, d)`: the register effect of a write (41_bus_interface.md R67 to R76). -/

namespace Sys2Proof.Machine

/-- FREQ_LO(v) (R68). -/
def applyFreqLo (v : VoiceId) (d : Byte) (c : Chip) : Chip := setReg c (voiceAddr v 0) d

/-- FREQ_HI(v) (R68). -/
def applyFreqHi (v : VoiceId) (d : Byte) (c : Chip) : Chip := setReg c (voiceAddr v 1) d

/-- PW_LO(v) (R69). -/
def applyPwLo (v : VoiceId) (d : Byte) (c : Chip) : Chip := setReg c (voiceAddr v 2) d

/-- PW_HI(v) (R69). -/
def applyPwHi (v : VoiceId) (d : Byte) (c : Chip) : Chip := setReg c (voiceAddr v 3) d

/-- CTRL(v): the byte is stored and its gate bit makes a gate event (R70). -/
def applyCtrl (v : VoiceId) (d : Byte) (c : Chip) : Chip :=
  updateVoice (setReg c (voiceAddr v 4) d) v (gateEvent (gate c v) (d.getLsbD 0))

/-- AD(v) (R71). -/
def applyAd (v : VoiceId) (d : Byte) (c : Chip) : Chip := setReg c (voiceAddr v 5) d

/-- SR(v) (R72). -/
def applySr (v : VoiceId) (d : Byte) (c : Chip) : Chip := setReg c (voiceAddr v 6) d

/-- FC_LO (R73). -/
def applyFcLo (d : Byte) (c : Chip) : Chip := setReg c 0x15 d

/-- FC_HI (R73). -/
def applyFcHi (d : Byte) (c : Chip) : Chip := setReg c 0x16 d

/-- RES_FILT (R74). -/
def applyResFilt (d : Byte) (c : Chip) : Chip := setReg c 0x17 d

/-- Both integrators of a voice at 0. -/
def clearFilter (x : Voice) : Voice := { x with lo := 0, ref := 0 }

/-- MODE_VOL: a change of the filter type zeroes the integrators of all three voices (R75, 45_filter_mix.md R116). -/
def applyModeVol (d : Byte) (c : Chip) : Chip :=
  if filterTypeChanged (regAt c 0x18) d then updateVoices (setReg c 0x18 d) (fun _ x => clearFilter x)
  else setReg c 0x18 d

/-- `APPLY(a, d)`, dispatched by address (R67); from 0x19 up no effect (R76). -/
def applyWrite (a d : Byte) (c : Chip) : Chip :=
  match a.toNat with
  | 0x00 => applyFreqLo 0 d c
  | 0x01 => applyFreqHi 0 d c
  | 0x02 => applyPwLo 0 d c
  | 0x03 => applyPwHi 0 d c
  | 0x04 => applyCtrl 0 d c
  | 0x05 => applyAd 0 d c
  | 0x06 => applySr 0 d c
  | 0x07 => applyFreqLo 1 d c
  | 0x08 => applyFreqHi 1 d c
  | 0x09 => applyPwLo 1 d c
  | 0x0A => applyPwHi 1 d c
  | 0x0B => applyCtrl 1 d c
  | 0x0C => applyAd 1 d c
  | 0x0D => applySr 1 d c
  | 0x0E => applyFreqLo 2 d c
  | 0x0F => applyFreqHi 2 d c
  | 0x10 => applyPwLo 2 d c
  | 0x11 => applyPwHi 2 d c
  | 0x12 => applyCtrl 2 d c
  | 0x13 => applyAd 2 d c
  | 0x14 => applySr 2 d c
  | 0x15 => applyFcLo d c
  | 0x16 => applyFcHi d c
  | 0x17 => applyResFilt d c
  | 0x18 => applyModeVol d c
  | _ => c

/-- The front entry popped and applied (42_render.md R78, R79; 46_control.md R121). -/
def applyFront (e : Entry) (c : Chip) : Chip := applyWrite e.addr e.value (popFront c)

end Sys2Proof.Machine
end

