-- ==== Sys2Proof/Machine/Bus.lean ====
section
/-! DEFINITION. The two bus operations (41_bus_interface.md R65, R66). -/

namespace Sys2Proof.Machine

/-- The elapsed CPU cycles since the previous write, never negative, the difference taken exactly (R65). -/
def elapsedCycles (c : Chip) (cycle : Arg) : Nat := (cycle.toInt - c.lastWriteCycle.toInt).toNat

/-- The queue entry of a write on an active chip: the elapsed cycles in tau (R65). -/
def writeEntry (c : Chip) (addr data : Byte) (cycle : Arg) : Entry :=
  ⟨addr, data, elapsedCycles c cycle * c.sampleRate⟩

/-- REG_WRITE (R65): ignored outside the register space; the latch and the baseline at once; the register effect at once on
an inert chip, through the queue on an active one. -/
def regWrite (addr data : Byte) (cycle : Arg) (s : State) : State :=
  if 0x20 ≤ addr then s.finish .none
  else if active s.chip then
    (enqueue (s.setChip { s.chip with latch := data, lastWriteCycle := cycle })
      (writeEntry s.chip addr data cycle)).finish .none
  else
    (s.setChip { applyWrite addr data { s.chip with latch := data } with lastWriteCycle := cycle }).finish .none

/-- REG_READ (R66). -/
def regRead (addr : Byte) (s : State) : State :=
  if addr ≤ 0x18 then s.finish (.byte s.chip.latch)
  else if addr = 0x19 ∨ addr = 0x1A then returnDraw s
  else if addr = 0x1B then s.finish (.byte (wave8 s.chip 2))
  else if addr = 0x1C then s.finish (.byte (envLevel s.chip 2))
  else if addr ≤ 0x1F then s.finish (.byte s.chip.latch)
  else returnDraw s

end Sys2Proof.Machine
end

