-- ==== Sys2Proof/Machine/RegRead.lean ====
section
/-! DEFINITION. The meanings of the REG_READ rows (41_bus_interface.md R66): one definition a row. -/

namespace Sys2Proof.Machine

/-- REG_READ FREQ_LO(0) (R66). -/
def execRegReadFreqLo0 (s : State) : Out := .next (regRead 0x00 s)

/-- REG_READ FREQ_HI(0) (R66). -/
def execRegReadFreqHi0 (s : State) : Out := .next (regRead 0x01 s)

/-- REG_READ PW_LO(0) (R66). -/
def execRegReadPwLo0 (s : State) : Out := .next (regRead 0x02 s)

/-- REG_READ PW_HI(0) (R66). -/
def execRegReadPwHi0 (s : State) : Out := .next (regRead 0x03 s)

/-- REG_READ CTRL(0) (R66). -/
def execRegReadCtrl0 (s : State) : Out := .next (regRead 0x04 s)

/-- REG_READ AD(0) (R66). -/
def execRegReadAd0 (s : State) : Out := .next (regRead 0x05 s)

/-- REG_READ SR(0) (R66). -/
def execRegReadSr0 (s : State) : Out := .next (regRead 0x06 s)

/-- REG_READ FREQ_LO(1) (R66). -/
def execRegReadFreqLo1 (s : State) : Out := .next (regRead 0x07 s)

/-- REG_READ FREQ_HI(1) (R66). -/
def execRegReadFreqHi1 (s : State) : Out := .next (regRead 0x08 s)

/-- REG_READ PW_LO(1) (R66). -/
def execRegReadPwLo1 (s : State) : Out := .next (regRead 0x09 s)

/-- REG_READ PW_HI(1) (R66). -/
def execRegReadPwHi1 (s : State) : Out := .next (regRead 0x0A s)

/-- REG_READ CTRL(1) (R66). -/
def execRegReadCtrl1 (s : State) : Out := .next (regRead 0x0B s)

/-- REG_READ AD(1) (R66). -/
def execRegReadAd1 (s : State) : Out := .next (regRead 0x0C s)

/-- REG_READ SR(1) (R66). -/
def execRegReadSr1 (s : State) : Out := .next (regRead 0x0D s)

/-- REG_READ FREQ_LO(2) (R66). -/
def execRegReadFreqLo2 (s : State) : Out := .next (regRead 0x0E s)

/-- REG_READ FREQ_HI(2) (R66). -/
def execRegReadFreqHi2 (s : State) : Out := .next (regRead 0x0F s)

/-- REG_READ PW_LO(2) (R66). -/
def execRegReadPwLo2 (s : State) : Out := .next (regRead 0x10 s)

/-- REG_READ PW_HI(2) (R66). -/
def execRegReadPwHi2 (s : State) : Out := .next (regRead 0x11 s)

/-- REG_READ CTRL(2) (R66). -/
def execRegReadCtrl2 (s : State) : Out := .next (regRead 0x12 s)

/-- REG_READ AD(2) (R66). -/
def execRegReadAd2 (s : State) : Out := .next (regRead 0x13 s)

/-- REG_READ SR(2) (R66). -/
def execRegReadSr2 (s : State) : Out := .next (regRead 0x14 s)

/-- REG_READ FC_LO (R66). -/
def execRegReadFcLo (s : State) : Out := .next (regRead 0x15 s)

/-- REG_READ FC_HI (R66). -/
def execRegReadFcHi (s : State) : Out := .next (regRead 0x16 s)

/-- REG_READ RES_FILT (R66). -/
def execRegReadResFilt (s : State) : Out := .next (regRead 0x17 s)

/-- REG_READ MODE_VOL (R66). -/
def execRegReadModeVol (s : State) : Out := .next (regRead 0x18 s)

/-- REG_READ POTX (R66). -/
def execRegReadPotx (s : State) : Out := .next (regRead 0x19 s)

/-- REG_READ POTY (R66). -/
def execRegReadPoty (s : State) : Out := .next (regRead 0x1A s)

/-- REG_READ OSC3 (R66). -/
def execRegReadOsc3 (s : State) : Out := .next (regRead 0x1B s)

/-- REG_READ ENV3 (R66). -/
def execRegReadEnv3 (s : State) : Out := .next (regRead 0x1C s)

/-- REG_READ UNUSED_1D (R66). -/
def execRegReadUnused1D (s : State) : Out := .next (regRead 0x1D s)

/-- REG_READ UNUSED_1E (R66). -/
def execRegReadUnused1E (s : State) : Out := .next (regRead 0x1E s)

/-- REG_READ UNUSED_1F (R66). -/
def execRegReadUnused1F (s : State) : Out := .next (regRead 0x1F s)

/-- REG_READ (address 0x20-0x3F) (R66). -/
def execRegReadFrom20 (addr : Byte) (s : State) : Out := .next (regRead addr s)

/-- REG_READ (address 0x40-0x7F) (R66). -/
def execRegReadFrom40 (addr : Byte) (s : State) : Out := .next (regRead addr s)

/-- REG_READ (address 0x80-0xFF) (R66). -/
def execRegReadFrom80 (addr : Byte) (s : State) : Out := .next (regRead addr s)

end Sys2Proof.Machine
end

