-- ==== Sys2Proof/Machine/RegWrite.lean ====
section
/-! DEFINITION. The meanings of the REG_WRITE rows (41_bus_interface.md R65; the register effects R68 to R76): one definition a row. -/

namespace Sys2Proof.Machine

/-- REG_WRITE FREQ_LO(0) (R65; its register effect R68). -/
def execRegWriteFreqLo0 (data : Byte) (cycle : Arg) (s : State) : Out :=
  .next (regWrite 0x00 data cycle s)

/-- REG_WRITE FREQ_HI(0) (R65; its register effect R68). -/
def execRegWriteFreqHi0 (data : Byte) (cycle : Arg) (s : State) : Out :=
  .next (regWrite 0x01 data cycle s)

/-- REG_WRITE PW_LO(0) (R65; its register effect R69). -/
def execRegWritePwLo0 (data : Byte) (cycle : Arg) (s : State) : Out :=
  .next (regWrite 0x02 data cycle s)

/-- REG_WRITE PW_HI(0) (R65; its register effect R69). -/
def execRegWritePwHi0 (data : Byte) (cycle : Arg) (s : State) : Out :=
  .next (regWrite 0x03 data cycle s)

/-- REG_WRITE CTRL(0) (R65; its register effect R70). -/
def execRegWriteCtrl0 (data : Byte) (cycle : Arg) (s : State) : Out :=
  .next (regWrite 0x04 data cycle s)

/-- REG_WRITE AD(0) (R65; its register effect R71). -/
def execRegWriteAd0 (data : Byte) (cycle : Arg) (s : State) : Out :=
  .next (regWrite 0x05 data cycle s)

/-- REG_WRITE SR(0) (R65; its register effect R72). -/
def execRegWriteSr0 (data : Byte) (cycle : Arg) (s : State) : Out :=
  .next (regWrite 0x06 data cycle s)

/-- REG_WRITE FREQ_LO(1) (R65; its register effect R68). -/
def execRegWriteFreqLo1 (data : Byte) (cycle : Arg) (s : State) : Out :=
  .next (regWrite 0x07 data cycle s)

/-- REG_WRITE FREQ_HI(1) (R65; its register effect R68). -/
def execRegWriteFreqHi1 (data : Byte) (cycle : Arg) (s : State) : Out :=
  .next (regWrite 0x08 data cycle s)

/-- REG_WRITE PW_LO(1) (R65; its register effect R69). -/
def execRegWritePwLo1 (data : Byte) (cycle : Arg) (s : State) : Out :=
  .next (regWrite 0x09 data cycle s)

/-- REG_WRITE PW_HI(1) (R65; its register effect R69). -/
def execRegWritePwHi1 (data : Byte) (cycle : Arg) (s : State) : Out :=
  .next (regWrite 0x0A data cycle s)

/-- REG_WRITE CTRL(1) (R65; its register effect R70). -/
def execRegWriteCtrl1 (data : Byte) (cycle : Arg) (s : State) : Out :=
  .next (regWrite 0x0B data cycle s)

/-- REG_WRITE AD(1) (R65; its register effect R71). -/
def execRegWriteAd1 (data : Byte) (cycle : Arg) (s : State) : Out :=
  .next (regWrite 0x0C data cycle s)

/-- REG_WRITE SR(1) (R65; its register effect R72). -/
def execRegWriteSr1 (data : Byte) (cycle : Arg) (s : State) : Out :=
  .next (regWrite 0x0D data cycle s)

/-- REG_WRITE FREQ_LO(2) (R65; its register effect R68). -/
def execRegWriteFreqLo2 (data : Byte) (cycle : Arg) (s : State) : Out :=
  .next (regWrite 0x0E data cycle s)

/-- REG_WRITE FREQ_HI(2) (R65; its register effect R68). -/
def execRegWriteFreqHi2 (data : Byte) (cycle : Arg) (s : State) : Out :=
  .next (regWrite 0x0F data cycle s)

/-- REG_WRITE PW_LO(2) (R65; its register effect R69). -/
def execRegWritePwLo2 (data : Byte) (cycle : Arg) (s : State) : Out :=
  .next (regWrite 0x10 data cycle s)

/-- REG_WRITE PW_HI(2) (R65; its register effect R69). -/
def execRegWritePwHi2 (data : Byte) (cycle : Arg) (s : State) : Out :=
  .next (regWrite 0x11 data cycle s)

/-- REG_WRITE CTRL(2) (R65; its register effect R70). -/
def execRegWriteCtrl2 (data : Byte) (cycle : Arg) (s : State) : Out :=
  .next (regWrite 0x12 data cycle s)

/-- REG_WRITE AD(2) (R65; its register effect R71). -/
def execRegWriteAd2 (data : Byte) (cycle : Arg) (s : State) : Out :=
  .next (regWrite 0x13 data cycle s)

/-- REG_WRITE SR(2) (R65; its register effect R72). -/
def execRegWriteSr2 (data : Byte) (cycle : Arg) (s : State) : Out :=
  .next (regWrite 0x14 data cycle s)

/-- REG_WRITE FC_LO (R65; its register effect R73). -/
def execRegWriteFcLo (data : Byte) (cycle : Arg) (s : State) : Out :=
  .next (regWrite 0x15 data cycle s)

/-- REG_WRITE FC_HI (R65; its register effect R73). -/
def execRegWriteFcHi (data : Byte) (cycle : Arg) (s : State) : Out :=
  .next (regWrite 0x16 data cycle s)

/-- REG_WRITE RES_FILT (R65; its register effect R74). -/
def execRegWriteResFilt (data : Byte) (cycle : Arg) (s : State) : Out :=
  .next (regWrite 0x17 data cycle s)

/-- REG_WRITE MODE_VOL (R65; its register effect R75). -/
def execRegWriteModeVol (data : Byte) (cycle : Arg) (s : State) : Out :=
  .next (regWrite 0x18 data cycle s)

/-- REG_WRITE POTX (R65; its register effect R76). -/
def execRegWritePotx (data : Byte) (cycle : Arg) (s : State) : Out :=
  .next (regWrite 0x19 data cycle s)

/-- REG_WRITE POTY (R65; its register effect R76). -/
def execRegWritePoty (data : Byte) (cycle : Arg) (s : State) : Out :=
  .next (regWrite 0x1A data cycle s)

/-- REG_WRITE OSC3 (R65; its register effect R76). -/
def execRegWriteOsc3 (data : Byte) (cycle : Arg) (s : State) : Out :=
  .next (regWrite 0x1B data cycle s)

/-- REG_WRITE ENV3 (R65; its register effect R76). -/
def execRegWriteEnv3 (data : Byte) (cycle : Arg) (s : State) : Out :=
  .next (regWrite 0x1C data cycle s)

/-- REG_WRITE UNUSED_1D (R65; its register effect R76). -/
def execRegWriteUnused1D (data : Byte) (cycle : Arg) (s : State) : Out :=
  .next (regWrite 0x1D data cycle s)

/-- REG_WRITE UNUSED_1E (R65; its register effect R76). -/
def execRegWriteUnused1E (data : Byte) (cycle : Arg) (s : State) : Out :=
  .next (regWrite 0x1E data cycle s)

/-- REG_WRITE UNUSED_1F (R65; its register effect R76). -/
def execRegWriteUnused1F (data : Byte) (cycle : Arg) (s : State) : Out :=
  .next (regWrite 0x1F data cycle s)

/-- REG_WRITE (address 0x20-0x3F, ignored) (R65). -/
def execRegWriteFrom20 (addr data : Byte) (cycle : Arg) (s : State) : Out :=
  .next (regWrite addr data cycle s)

/-- REG_WRITE (address 0x40-0x7F, ignored) (R65). -/
def execRegWriteFrom40 (addr data : Byte) (cycle : Arg) (s : State) : Out :=
  .next (regWrite addr data cycle s)

/-- REG_WRITE (address 0x80-0xFF, ignored) (R65). -/
def execRegWriteFrom80 (addr data : Byte) (cycle : Arg) (s : State) : Out :=
  .next (regWrite addr data cycle s)

end Sys2Proof.Machine
end

