-- ==== Sys2Proof/Machine/Snapshot.lean ====
section
/-! DEFINITION. The snapshot: the blob of a chip, its validation, and the chip of a blob (46_control.md R124 to R126). -/

namespace Sys2Proof.Machine

/-- A voice as a blob carries it. -/
def Voice.toBlob (x : Voice) : BlobVoice :=
  ⟨x.acc.toNat, x.lfsr.toNat, x.env, x.E.toNat, x.exp, x.lo.toInt, x.ref.toInt⟩

/-- A queue entry as a blob carries it. -/
def Entry.toBlob (e : Entry) : BlobEntry := ⟨e.addr.toNat, e.value.toNat, e.delta⟩

/-- `SNAPSHOT()` (R124, R125). -/
def snapshot (c : Chip) : Blob :=
  { variant := c.variant
    qcap := c.qcap
    sampleRate := c.sampleRate
    clockRate := c.clockRate
    regs := c.regs.toList.map (fun b => (b.toNat : Int))
    latch := c.latch.toNat
    voices := [c.voices.v0.toBlob, c.voices.v1.toBlob, c.voices.v2.toBlob]
    queue := c.queue.map Entry.toBlob
    frac := c.frac
    lastWriteCycle := c.lastWriteCycle.toInt
    overflowCount := c.overflowCount }

/-- The fields of a blob's voice lie within their widths and `exp` within the table (R126). -/
def BlobVoice.valid (variant : Variant) (x : BlobVoice) : Bool :=
  fitsUnsigned 32 x.acc && fitsUnsigned 23 x.lfsr && fitsUnsigned 31 x.E &&
    decide (0 ≤ x.exp) && decide (x.exp ≤ lutK variant) && fitsSigned 31 x.lo && fitsSigned 31 x.ref

/-- An entry's address and byte are bytes and its delta is not negative (R126, 10_state.md R23). -/
def BlobEntry.valid (e : BlobEntry) : Bool :=
  fitsUnsigned 8 e.addr && fitsUnsigned 8 e.value && decide (0 ≤ e.delta)

/-- `b.frac` is below `b.clockRate` when that is positive, and 0 otherwise (R126). -/
def Blob.fracValid (b : Blob) : Bool :=
  decide (0 ≤ b.frac) && (if 0 < b.clockRate then decide (b.frac < b.clockRate) else decide (b.frac = 0))

/-- `VALID(b)` for the chip c (R126; log 9). -/
def Blob.valid (b : Blob) (c : Chip) : Bool :=
  decide (b.variant = c.variant) && decide (b.qcap = c.qcap) && decide ((b.queue.length : Int) ≤ c.qcap) &&
    b.queue.all BlobEntry.valid && decide (b.voices.length = 3) && b.voices.all (BlobVoice.valid c.variant) &&
    decide (b.regs.length = 25) && b.regs.all (fitsUnsigned 8) && fitsUnsigned 8 b.latch && b.fracValid &&
    decide (0 ≤ b.sampleRate) && decide (0 ≤ b.clockRate) && fitsSigned 63 b.lastWriteCycle &&
    decide (0 ≤ b.overflowCount)

/-- The voice a valid blob's voice stands for. -/
def BlobVoice.toVoice (x : BlobVoice) : Voice :=
  { acc := BitVec.ofInt 32 x.acc
    lfsr := BitVec.ofInt 23 x.lfsr
    env := x.env
    E := BitVec.ofInt 31 x.E
    exp := x.exp.toNat
    lo := BitVec.ofInt 32 x.lo
    ref := BitVec.ofInt 32 x.ref }

/-- The entry a valid blob's entry stands for. -/
def BlobEntry.toEntry (e : BlobEntry) : Entry := ⟨BitVec.ofInt 8 e.addr, BitVec.ofInt 8 e.value, e.delta.toNat⟩

/-- The voices of a valid blob, which has three; a missing one (no valid blob) reads as the initial voice. -/
def voicesOf (l : List BlobVoice) : Voices :=
  let at' (i : Nat) : Voice := (l[i]?.map BlobVoice.toVoice).getD Voice.initial
  ⟨at' 0, at' 1, at' 2⟩

/-- The registers of a valid blob, which has 25. -/
def regsOf (l : List Int) : Vector Byte 25 :=
  if h : l.length = 25 then ⟨(l.map (BitVec.ofInt 8)).toArray, by simp [h]⟩ else Vector.replicate 25 0

/-- The chip of a valid blob: every field of the snapshot at its value in b (R126). -/
def Blob.toChip (b : Blob) : Chip :=
  { variant := b.variant
    qcap := b.qcap.toNat
    sampleRate := b.sampleRate.toNat
    clockRate := b.clockRate.toNat
    regs := regsOf b.regs
    latch := BitVec.ofInt 8 b.latch
    voices := voicesOf b.voices
    queue := b.queue.map BlobEntry.toEntry
    frac := b.frac.toNat
    lastWriteCycle := BitVec.ofInt 64 b.lastWriteCycle
    overflowCount := b.overflowCount.toNat }

end Sys2Proof.Machine
end

