-- ==== Sys2Proof/Machine/Control.lean ====
section
/-! DEFINITION. Power-on, reset, and the rate changes (70_reset_and_hazards.md R143, R144; 46_control.md R121 to R123). -/

namespace Sys2Proof.Machine

/-- `FLUSH()`'s loop (R121); the list is the queue of `c`. -/
def flushLoop : List Entry → Chip → Chip
  | [], c => c
  | e :: rest, c => flushLoop rest (applyFront e c)

/-- `FLUSH()` (R121). -/
def flush (c : Chip) : Chip := { flushLoop c.queue c with frac := 0 }

/-- A sample rate is valid in 1 .. 2^31 - 1 (R122). -/
def validSampleRate (r : Int) : Bool := decide (1 ≤ r) && decide (r ≤ 2 ^ 31 - 1)

/-- A clock rate is valid from 1 up (R123). -/
def validClockRate (r : Int) : Bool := decide (1 ≤ r)

/-- SET_OUTPUT_RATE (R122). -/
def setOutputRate (r : Int) (s : State) : State :=
  if validSampleRate r then
    (s.setChip { flush s.chip with sampleRate := r.toNat }).finish (.status .ok)
  else (s.setChip { flush s.chip with sampleRate := 0 }).finish (.status .configInvalid)

/-- SET_CLOCK_RATE (R123). -/
def setClockRate (r : Int) (s : State) : State :=
  if validClockRate r then
    (s.setChip { flush s.chip with clockRate := r.toNat }).finish (.status .ok)
  else (s.setChip { flush s.chip with clockRate := 0 }).finish (.status .configInvalid)

/-- A voice as RESET_STATE leaves it (R144). -/
def resetVoice : Voice :=
  { acc := 0, lfsr := lfsrSeed, env := .idle, E := 0, exp := 0, lo := 0, ref := 0 }

/-- `RESET_STATE()` (R144): the pending writes are discarded; the rates, the variant and the capacity stay. -/
def resetState (c : Chip) : Chip :=
  { c with
    regs := Vector.replicate 25 0
    latch := 0
    voices := ⟨resetVoice, resetVoice, resetVoice⟩
    queue := []
    frac := 0
    lastWriteCycle := 0 }

/-- `RESET()` on the chip (R144). -/
def resetChip (c : Chip) : Chip := { resetState c with overflowCount := 0 }

/-- `POWER_ON(variant, qcap, calibration)` (R143), the host's construction of a chip and no command word: a status, and the
machine when one is created. The calibration is the variant's. -/
def powerOn (variant : Variant) (qcap : Int) : Status × Option State :=
  if variant ∈ Config.supportedVariants ∧ 1 ≤ qcap then (.ok, some (State.powered variant qcap.toNat))
  else (.configInvalid, none)

/-- Power-off, the host's teardown and no command word: no machine is left and nothing is kept (60_exceptions.md R142). -/
def powerOff (_ : State) : Option State := none

end Sys2Proof.Machine
end

