-- ==== Sys2Proof/Machine/Render.lean ====
section
/-! DEFINITION. RENDER: the backlog skip and the replay loop (42_render.md R77 to R81). The loops recurse on the chip's
queue, front first: every round pops the front entry or ends. -/

namespace Sys2Proof.Machine

/-- `BACKLOG(n)`'s loop (R78): `excess` in tau, signed; the list is the queue of `c`. -/
def backlogLoop : List Entry → Int → Chip → Chip
  | [], _, c => c
  | e :: rest, excess, c =>
    if 0 < excess then backlogLoop rest (excess - e.delta) (applyFront e c) else c

/-- `BACKLOG(n)` (R78). -/
def backlog (n : Nat) (c : Chip) : Chip :=
  backlogLoop c.queue ((totalDelta c.queue : Int) - n * c.clockRate) c

/-- `t = frac + Q[0].delta` (R77). -/
def frontTime (c : Chip) (e : Entry) : Nat := c.frac + e.delta

/-- `k = t div clockRate` (R77). -/
def frontSamples (c : Chip) (e : Entry) : Nat := frontTime c e / c.clockRate

/-- `REPLAY_WITHIN()` after its k samples, on the chip they leave: pop and apply the write, carry the remainder (R79). -/
def replayWithin (t : Nat) (e : Entry) (c : Chip) : Chip :=
  { applyFront e c with frac := t % c.clockRate }

/-- `REPLAY_BEYOND()` after its `rem` samples (R80). -/
def replayBeyond (rem : Nat) (c : Chip) : Chip := decFront c (rem * c.clockRate)

/-- `REPLAY_EMPTY()` after its samples (R81). -/
def replayEmpty (c : Chip) : Chip := { c with lastWriteCycle := 0 }

/-- The replay loop (R77): `rem` samples still to emit; the list is the queue of `c`. -/
def replay : List Entry → Nat → Chip → List Sample × Chip
  | _, 0, c => ([], c)
  | [], rem + 1, c => ((ticks (rem + 1) c).1, replayEmpty (ticks (rem + 1) c).2)
  | e :: rest, rem + 1, c =>
    if frontSamples c e ≤ rem + 1 then
      let within := ticks (frontSamples c e) c
      let after := replay rest (rem + 1 - frontSamples c e) (replayWithin (frontTime c e) e within.2)
      (within.1 ++ after.1, after.2)
    else ((ticks (rem + 1) c).1, replayBeyond (rem + 1) (ticks (rem + 1) c).2)

/-- RENDER of n > 0 samples on an active chip (R77). -/
def renderActive (n : Nat) (c : Chip) : List Sample × Chip :=
  replay (backlog n c).queue n (backlog n c)

/-- RENDER(n) (R77): nothing for n ≤ 0, silence on an inert chip. -/
def render (n : Int) (s : State) : State :=
  if n ≤ 0 then s.finish (.samples [])
  else if active s.chip then
    (s.setChip (renderActive n.toNat s.chip).2).finish (.samples (renderActive n.toNat s.chip).1)
  else s.finish (.samples (List.replicate n.toNat 0))

end Sys2Proof.Machine
end

