-- ==== Sys2Proof/Machine/System.lean ====
section
/-! DEFINITION. The meanings of RENDER, the rate commands, RESET, the snapshot commands, and the reserved OP rows. -/

namespace Sys2Proof.Machine

/-- RENDER (42_render.md R77). -/
def execRender (count : Arg) (s : State) : Out := .next (render count.toInt s)

/-- SET_OUTPUT_RATE (46_control.md R122). -/
def execSetOutputRate (rate : Arg) (s : State) : Out := .next (setOutputRate rate.toInt s)

/-- SET_CLOCK_RATE (46_control.md R123). -/
def execSetClockRate (rate : Arg) (s : State) : Out := .next (setClockRate rate.toInt s)

/-- RESET (70_reset_and_hazards.md R144). The fault record and the diagnostic output stay (60_exceptions.md R131; log 12). -/
def execReset (s : State) : Out := .next ((s.setChip (resetChip s.chip)).finish .none)

/-- SAVE_STATE (46_control.md R125). -/
def execSaveState (s : State) : Out := .next (s.finish (.blob (snapshot s.chip)))

/-- LOAD_STATE (46_control.md R126). Something that is no snapshot record is not valid (log 9). -/
def execLoadState (blob : Option Blob) (s : State) : Out :=
  match blob with
  | none => .next (raiseFault s .badStateBlob (commandWord 0x8 0 0) 0)
  | some b =>
    if b.valid s.chip then .next ((s.setChip b.toChip).finish .none)
    else .next (raiseFault s .badStateBlob (commandWord 0x8 0 0) 0)

/-- A word with OP 0x0 (30_encoding.md R50). -/
def execReserved0 (rest : BitVec 28) (s : State) : Out := .next (raiseFault s .reservedCommand (rest ++ 0x0#4) 0)

/-- A word with OP 0xE (30_encoding.md R50). -/
def execReservedE (rest : BitVec 28) (s : State) : Out := .next (raiseFault s .reservedCommand (rest ++ 0xE#4) 0)

/-- A word with OP 0xF (30_encoding.md R50). -/
def execReservedF (rest : BitVec 28) (s : State) : Out := .next (raiseFault s .reservedCommand (rest ++ 0xF#4) 0)

end Sys2Proof.Machine
end

