-- ==== Sys2Proof/Machine/Dispatch.lean ====
section
/-! DEFINITION. The dispatch: one arm per constructor of Instr. -/

namespace Sys2Proof.Machine

/-- Every instruction's meaning. -/
def exec (i : Instr) (s : State) : Host.Outcome State Fault Refusal :=
  match i with
  | .regWriteFreqLo0 data cycle => Sys2Proof.Machine.execRegWriteFreqLo0 data cycle s
  | .regWriteFreqHi0 data cycle => Sys2Proof.Machine.execRegWriteFreqHi0 data cycle s
  | .regWritePwLo0 data cycle => Sys2Proof.Machine.execRegWritePwLo0 data cycle s
  | .regWritePwHi0 data cycle => Sys2Proof.Machine.execRegWritePwHi0 data cycle s
  | .regWriteCtrl0 data cycle => Sys2Proof.Machine.execRegWriteCtrl0 data cycle s
  | .regWriteAd0 data cycle => Sys2Proof.Machine.execRegWriteAd0 data cycle s
  | .regWriteSr0 data cycle => Sys2Proof.Machine.execRegWriteSr0 data cycle s
  | .regWriteFreqLo1 data cycle => Sys2Proof.Machine.execRegWriteFreqLo1 data cycle s
  | .regWriteFreqHi1 data cycle => Sys2Proof.Machine.execRegWriteFreqHi1 data cycle s
  | .regWritePwLo1 data cycle => Sys2Proof.Machine.execRegWritePwLo1 data cycle s
  | .regWritePwHi1 data cycle => Sys2Proof.Machine.execRegWritePwHi1 data cycle s
  | .regWriteCtrl1 data cycle => Sys2Proof.Machine.execRegWriteCtrl1 data cycle s
  | .regWriteAd1 data cycle => Sys2Proof.Machine.execRegWriteAd1 data cycle s
  | .regWriteSr1 data cycle => Sys2Proof.Machine.execRegWriteSr1 data cycle s
  | .regWriteFreqLo2 data cycle => Sys2Proof.Machine.execRegWriteFreqLo2 data cycle s
  | .regWriteFreqHi2 data cycle => Sys2Proof.Machine.execRegWriteFreqHi2 data cycle s
  | .regWritePwLo2 data cycle => Sys2Proof.Machine.execRegWritePwLo2 data cycle s
  | .regWritePwHi2 data cycle => Sys2Proof.Machine.execRegWritePwHi2 data cycle s
  | .regWriteCtrl2 data cycle => Sys2Proof.Machine.execRegWriteCtrl2 data cycle s
  | .regWriteAd2 data cycle => Sys2Proof.Machine.execRegWriteAd2 data cycle s
  | .regWriteSr2 data cycle => Sys2Proof.Machine.execRegWriteSr2 data cycle s
  | .regWriteFcLo data cycle => Sys2Proof.Machine.execRegWriteFcLo data cycle s
  | .regWriteFcHi data cycle => Sys2Proof.Machine.execRegWriteFcHi data cycle s
  | .regWriteResFilt data cycle => Sys2Proof.Machine.execRegWriteResFilt data cycle s
  | .regWriteModeVol data cycle => Sys2Proof.Machine.execRegWriteModeVol data cycle s
  | .regWritePotx data cycle => Sys2Proof.Machine.execRegWritePotx data cycle s
  | .regWritePoty data cycle => Sys2Proof.Machine.execRegWritePoty data cycle s
  | .regWriteOsc3 data cycle => Sys2Proof.Machine.execRegWriteOsc3 data cycle s
  | .regWriteEnv3 data cycle => Sys2Proof.Machine.execRegWriteEnv3 data cycle s
  | .regWriteUnused1D data cycle => Sys2Proof.Machine.execRegWriteUnused1D data cycle s
  | .regWriteUnused1E data cycle => Sys2Proof.Machine.execRegWriteUnused1E data cycle s
  | .regWriteUnused1F data cycle => Sys2Proof.Machine.execRegWriteUnused1F data cycle s
  | .regWriteFrom20 addr data cycle => Sys2Proof.Machine.execRegWriteFrom20 addr data cycle s
  | .regWriteFrom40 addr data cycle => Sys2Proof.Machine.execRegWriteFrom40 addr data cycle s
  | .regWriteFrom80 addr data cycle => Sys2Proof.Machine.execRegWriteFrom80 addr data cycle s
  | .regReadFreqLo0 => Sys2Proof.Machine.execRegReadFreqLo0 s
  | .regReadFreqHi0 => Sys2Proof.Machine.execRegReadFreqHi0 s
  | .regReadPwLo0 => Sys2Proof.Machine.execRegReadPwLo0 s
  | .regReadPwHi0 => Sys2Proof.Machine.execRegReadPwHi0 s
  | .regReadCtrl0 => Sys2Proof.Machine.execRegReadCtrl0 s
  | .regReadAd0 => Sys2Proof.Machine.execRegReadAd0 s
  | .regReadSr0 => Sys2Proof.Machine.execRegReadSr0 s
  | .regReadFreqLo1 => Sys2Proof.Machine.execRegReadFreqLo1 s
  | .regReadFreqHi1 => Sys2Proof.Machine.execRegReadFreqHi1 s
  | .regReadPwLo1 => Sys2Proof.Machine.execRegReadPwLo1 s
  | .regReadPwHi1 => Sys2Proof.Machine.execRegReadPwHi1 s
  | .regReadCtrl1 => Sys2Proof.Machine.execRegReadCtrl1 s
  | .regReadAd1 => Sys2Proof.Machine.execRegReadAd1 s
  | .regReadSr1 => Sys2Proof.Machine.execRegReadSr1 s
  | .regReadFreqLo2 => Sys2Proof.Machine.execRegReadFreqLo2 s
  | .regReadFreqHi2 => Sys2Proof.Machine.execRegReadFreqHi2 s
  | .regReadPwLo2 => Sys2Proof.Machine.execRegReadPwLo2 s
  | .regReadPwHi2 => Sys2Proof.Machine.execRegReadPwHi2 s
  | .regReadCtrl2 => Sys2Proof.Machine.execRegReadCtrl2 s
  | .regReadAd2 => Sys2Proof.Machine.execRegReadAd2 s
  | .regReadSr2 => Sys2Proof.Machine.execRegReadSr2 s
  | .regReadFcLo => Sys2Proof.Machine.execRegReadFcLo s
  | .regReadFcHi => Sys2Proof.Machine.execRegReadFcHi s
  | .regReadResFilt => Sys2Proof.Machine.execRegReadResFilt s
  | .regReadModeVol => Sys2Proof.Machine.execRegReadModeVol s
  | .regReadPotx => Sys2Proof.Machine.execRegReadPotx s
  | .regReadPoty => Sys2Proof.Machine.execRegReadPoty s
  | .regReadOsc3 => Sys2Proof.Machine.execRegReadOsc3 s
  | .regReadEnv3 => Sys2Proof.Machine.execRegReadEnv3 s
  | .regReadUnused1D => Sys2Proof.Machine.execRegReadUnused1D s
  | .regReadUnused1E => Sys2Proof.Machine.execRegReadUnused1E s
  | .regReadUnused1F => Sys2Proof.Machine.execRegReadUnused1F s
  | .regReadFrom20 addr => Sys2Proof.Machine.execRegReadFrom20 addr s
  | .regReadFrom40 addr => Sys2Proof.Machine.execRegReadFrom40 addr s
  | .regReadFrom80 addr => Sys2Proof.Machine.execRegReadFrom80 addr s
  | .render count => Sys2Proof.Machine.execRender count s
  | .setOutputRate rate => Sys2Proof.Machine.execSetOutputRate rate s
  | .setClockRate rate => Sys2Proof.Machine.execSetClockRate rate s
  | .reset => Sys2Proof.Machine.execReset s
  | .saveState => Sys2Proof.Machine.execSaveState s
  | .loadState blob => Sys2Proof.Machine.execLoadState blob s
  | .qDequeue => Sys2Proof.Machine.execQDequeue s
  | .qFront => Sys2Proof.Machine.execQFront s
  | .qSize => Sys2Proof.Machine.execQSize s
  | .qTotal => Sys2Proof.Machine.execQTotal s
  | .qEnqueue addr data delta => Sys2Proof.Machine.execQEnqueue addr data delta s
  | .reserved0 rest => Sys2Proof.Machine.execReserved0 rest s
  | .reservedE rest => Sys2Proof.Machine.execReservedE rest s
  | .reservedF rest => Sys2Proof.Machine.execReservedF rest s

end Sys2Proof.Machine
end

