-- ==== Sys2Proof/Machine/Step.lean ====
section
/-! DEFINITION. One step: the next command of the agents' order is decoded and executed (20_memory.md R37; 10_state.md R14). -/

namespace Sys2Proof.Machine

/-- One step. With no command issued the chip waits, unchanged (log 2). A word that the decoder rejects is reserved
(30_encoding.md R50). -/
def step (s : State) : Host.Outcome State Fault Refusal :=
  match fetch s with
  | none => .next s
  | some (p, t) =>
    match decode p with
    | .ok i => exec i t
    | .error _ => .next (rejectCommand t p)

/-- s with the command of these bits as the next one its agents issue, ahead of those already pending (log 1). -/
def State.withFetchWord (s : State) (nbits w : Nat) : State :=
  { s with pending := commandOfBits nbits w :: s.pending }

end Sys2Proof.Machine
end

