-- ==== Sys2Proof/Safety.lean ====
section
/-! DEFINITION. What a sound chip is and what a faulted run is, in the terms the statements use. -/

namespace Sys2Proof.Machine

/-- What holds of a chip after every command: a positive capacity and a queue within it (10_state.md R15, 40_queue.md R56),
every table index within the table (44_envelope.md R111), and a fraction below one sample, 0 while the clock rate is unset
(10_state.md R24, 46_control.md R126). The other bounds of R56 and R111 (deltas not negative, E within 31 bits, the noise
register within 23) hold by the types. -/
structure Chip.Sound (c : Chip) : Prop where
  capacity_pos : 0 < c.qcap
  queue_within : c.queue.length ≤ c.qcap
  index_within : ∀ v, (voiceAt c v).exp ≤ lutK c.variant
  frac_within : c.clockRate ≠ 0 → c.frac < c.clockRate
  frac_unset : c.clockRate = 0 → c.frac = 0

/-- A run whose fault record is not empty is a faulted run (60_exceptions.md R131). -/
def State.Faulted (s : State) : Prop := s.fault ≠ []

end Sys2Proof.Machine
end

