-- ==== Sys2Proof/Certificates/Slice0/Obligations.lean ====
section
/-! DEFINITION. The statements for the provers, from the numbered rules of spec/. The names under `Sys2Proof.Spec` only
abbreviate: they list constructors by address and write out conditions of the rules in plain arithmetic. What a command
returns is the spec's; that the machine holds the last of it in the field `result` is the model's (log 3). -/

namespace Sys2Proof.Spec

open Sys2Proof.Machine

/-- The REG_WRITE row of address a (30_encoding.md R49). -/
def regWriteOf (a : Fin 32) (data : Byte) (cycle : Arg) : Instr :=
  match a.val with
  | 0 => .regWriteFreqLo0 data cycle
  | 1 => .regWriteFreqHi0 data cycle
  | 2 => .regWritePwLo0 data cycle
  | 3 => .regWritePwHi0 data cycle
  | 4 => .regWriteCtrl0 data cycle
  | 5 => .regWriteAd0 data cycle
  | 6 => .regWriteSr0 data cycle
  | 7 => .regWriteFreqLo1 data cycle
  | 8 => .regWriteFreqHi1 data cycle
  | 9 => .regWritePwLo1 data cycle
  | 10 => .regWritePwHi1 data cycle
  | 11 => .regWriteCtrl1 data cycle
  | 12 => .regWriteAd1 data cycle
  | 13 => .regWriteSr1 data cycle
  | 14 => .regWriteFreqLo2 data cycle
  | 15 => .regWriteFreqHi2 data cycle
  | 16 => .regWritePwLo2 data cycle
  | 17 => .regWritePwHi2 data cycle
  | 18 => .regWriteCtrl2 data cycle
  | 19 => .regWriteAd2 data cycle
  | 20 => .regWriteSr2 data cycle
  | 21 => .regWriteFcLo data cycle
  | 22 => .regWriteFcHi data cycle
  | 23 => .regWriteResFilt data cycle
  | 24 => .regWriteModeVol data cycle
  | 25 => .regWritePotx data cycle
  | 26 => .regWritePoty data cycle
  | 27 => .regWriteOsc3 data cycle
  | 28 => .regWriteEnv3 data cycle
  | 29 => .regWriteUnused1D data cycle
  | 30 => .regWriteUnused1E data cycle
  | _ => .regWriteUnused1F data cycle

/-- The REG_READ row of address a (30_encoding.md R49). -/
def regReadOf (a : Fin 32) : Instr :=
  match a.val with
  | 0 => .regReadFreqLo0
  | 1 => .regReadFreqHi0
  | 2 => .regReadPwLo0
  | 3 => .regReadPwHi0
  | 4 => .regReadCtrl0
  | 5 => .regReadAd0
  | 6 => .regReadSr0
  | 7 => .regReadFreqLo1
  | 8 => .regReadFreqHi1
  | 9 => .regReadPwLo1
  | 10 => .regReadPwHi1
  | 11 => .regReadCtrl1
  | 12 => .regReadAd1
  | 13 => .regReadSr1
  | 14 => .regReadFreqLo2
  | 15 => .regReadFreqHi2
  | 16 => .regReadPwLo2
  | 17 => .regReadPwHi2
  | 18 => .regReadCtrl2
  | 19 => .regReadAd2
  | 20 => .regReadSr2
  | 21 => .regReadFcLo
  | 22 => .regReadFcHi
  | 23 => .regReadResFilt
  | 24 => .regReadModeVol
  | 25 => .regReadPotx
  | 26 => .regReadPoty
  | 27 => .regReadOsc3
  | 28 => .regReadEnv3
  | 29 => .regReadUnused1D
  | 30 => .regReadUnused1E
  | _ => .regReadUnused1F

/-- An address of the register space as the byte a command carries. -/
def addrByte (a : Fin 32) : Byte := BitVec.ofNat 8 a

/-- The entry an active chip's REG_WRITE makes: the cycles since the last write, never negative, in tau (R65). -/
def queuedEntry (c : Chip) (a : Fin 32) (data : Byte) (cycle : Arg) : Entry :=
  ⟨addrByte a, data, (max 0 (cycle.toInt - c.lastWriteCycle.toInt)).toNat * c.sampleRate⟩

/-- OP of a word as a number, bits 3:0 (R45). -/
def opOf (cw : CommandWord) : Nat := cw.toNat % 16

/-- ADDR of a word as a number, bits 11:4 (R45). -/
def addrOf (cw : CommandWord) : Nat := cw.toNat / 16 % 256

/-- DATA of a word as a number, bits 19:12 (R45). -/
def dataOf (cw : CommandWord) : Nat := cw.toNat / 4096 % 256

/-- A command word is reserved (30_encoding.md R50). -/
def ReservedWord (cw : CommandWord) : Prop :=
  opOf cw = 0 ∨ opOf cw = 14 ∨ opOf cw = 15 ∨ cw.toNat / 2 ^ 20 ≠ 0 ∨
    (addrOf cw ≠ 0 ∧ opOf cw ≠ 1 ∧ opOf cw ≠ 2 ∧ opOf cw ≠ 9) ∨
    (dataOf cw ≠ 0 ∧ opOf cw ≠ 1 ∧ opOf cw ≠ 9)

/-- The formats with an ARG: REG_WRITE, RENDER, the two rates, Q_ENQUEUE (R45). -/
def OpTakesArg (cw : CommandWord) : Prop := opOf cw ∈ [1, 3, 4, 5, 9]

/-- The three reserved OP rows. -/
def ReservedRow (i : Instr) : Prop :=
  ∃ rest, i = .reserved0 rest ∨ i = .reservedE rest ∨ i = .reservedF rest

/-- The sum of an accumulator and its step carries out of bit 31 and the voice is not under TEST (43_voice.md R88, R89). -/
def Carries (c : Chip) (v : VoiceId) : Prop :=
  test c v = false ∧ 2 ^ 32 ≤ (voiceAt c v).acc.toNat + (step32 c v).toNat

/-- The accumulator of a voice after pass 1 (43_voice.md R88, R89). -/
def accAfterPass1 (c : Chip) (v : VoiceId) : Nat :=
  if test c v then 0 else ((voiceAt c v).acc.toNat + (step32 c v).toNat) % 2 ^ 32

/-- The step of a falling envelope: the base step shifted right by the table's current shift (44_envelope.md R102); the shift 0
beyond the table is the model's choice (log 14). -/
def fall (c : Chip) (rate : BitVec 4) (exp : Nat) : Int :=
  ((decayStep c.variant c.sampleRate c.clockRate rate).toNat / 2 ^
    (if exp = 0 then 0 else ((decayTable c.variant).map (fun row => row.2.val)).getD (exp - 1) 0) : Nat)

/-- The table index advances from the voice x whose counter and state after the state rule are E and env (44_envelope.md R108). -/
def IndexAdvances (c : Chip) (exp : Nat) (E : EnvCounter) (env : EnvState) : Prop :=
  (env = .decay ∨ env = .release) ∧ exp < lutK c.variant ∧
    E.toNat < (((decayTable c.variant).map (fun row => row.1.toNat)).getD exp 0)

/-- The chip's part of 45_filter_mix.md R119: every register 0, every voice Idle at 0 with its integrators at 0, no write
pending. -/
structure Silent (c : Chip) : Prop where
  regs : c.regs = Vector.replicate 25 0
  voices : ∀ v, (voiceAt c v).env = .idle ∧ (voiceAt c v).E = 0 ∧ (voiceAt c v).lo = 0 ∧ (voiceAt c v).ref = 0
  queue : c.queue = []

/-- The samples and the chip that the writes of a list, at the front of the queue, make in the replay loop: for each of
them the ticks up to its sample, then the write popped and applied and the remainder kept (42_render.md R79). -/
def rounds : List Entry → Chip → List Sample × Chip
  | [], c => ([], c)
  | w :: ws, c =>
    let time := c.frac + w.delta
    let c1 := (ticks (time / c.clockRate) c).2
    let c2 := { applyWrite w.addr w.value { c1 with queue := c1.queue.tail } with frac := time % c.clockRate }
    ((ticks (time / c.clockRate) c).1 ++ (rounds ws c2).1, (rounds ws c2).2)

/-- The commands that may reach the synthesis state of an active chip: RENDER, the rate changes, RESET, LOAD_STATE. -/
def ReachesSynthesis : Instr → Prop
  | .render _ | .setOutputRate _ | .setClockRate _ | .reset | .loadState _ => True
  | _ => False

/-- An integer is an unsigned number of n bits. -/
def Unsigned (n : Nat) (x : Int) : Prop := 0 ≤ x ∧ x < 2 ^ n

/-- An integer is a two's complement number of n + 1 bits. -/
def Signed (n : Nat) (x : Int) : Prop := -2 ^ n ≤ x ∧ x < 2 ^ n

/-- `VALID(b)` of 46_control.md R126 for the chip c, field by field. -/
structure ValidBlob (b : Blob) (c : Chip) : Prop where
  variant : b.variant = c.variant
  qcap : b.qcap = c.qcap
  queue_within : b.queue.length ≤ c.qcap
  entries : ∀ e ∈ b.queue, Unsigned 8 e.addr ∧ Unsigned 8 e.value ∧ 0 ≤ e.delta
  voices : b.voices.length = 3 ∧ ∀ x ∈ b.voices, Unsigned 32 x.acc ∧ Unsigned 23 x.lfsr ∧ Unsigned 31 x.E ∧
    (0 ≤ x.exp ∧ x.exp ≤ lutK c.variant) ∧ Signed 31 x.lo ∧ Signed 31 x.ref
  regs : b.regs.length = 25 ∧ ∀ r ∈ b.regs, Unsigned 8 r
  latch : Unsigned 8 b.latch
  frac : 0 ≤ b.frac ∧ (0 < b.clockRate → b.frac < b.clockRate) ∧ (¬ 0 < b.clockRate → b.frac = 0)
  rates : 0 ≤ b.sampleRate ∧ 0 ≤ b.clockRate
  lastWriteCycle : Signed 63 b.lastWriteCycle
  overflowCount : 0 ≤ b.overflowCount

/-- A signed 32-bit wrap in plain arithmetic (00_scope.md R10). -/
def wrapSigned (x : Int) : Int := Int.bmod x (2 ^ 32)

/-- `hp` of R114 for the tick of chip c: the chip after the envelope step holds the inputs. -/
def highPassOf (c : Chip) (v : VoiceId) : Int :=
  wrapSigned (voiceOut (envPass c) v - (voiceAt c v).lo.toInt -
    (voiceAt c v).ref.toInt * filterResDy c.variant (resonance c) (cutoff c) c.sampleRate / 2 ^ 16)

/-- `ref` of R114 after the tick. -/
def refOf (c : Chip) (v : VoiceId) : Int :=
  wrapSigned ((voiceAt c v).ref.toInt + highPassOf c v * filterDy c.variant (cutoff c) c.sampleRate / 2 ^ 16)

/-- `lo` of R114 after the tick. -/
def loOf (c : Chip) (v : VoiceId) : Int :=
  wrapSigned ((voiceAt c v).lo.toInt + refOf c v * filterDy c.variant (cutoff c) c.sampleRate / 2 ^ 16)

/-- What voice v adds to the sum of R117. -/
def mixed (c : Chip) (v : VoiceId) : Int :=
  if filtered c v then
    (if lowPass c then loOf c v else 0) + (if bandPass c then refOf c v else 0) +
      (if highPass c then highPassOf c v else 0)
  else if v = 2 ∧ off3 c = true then 0
  else voiceOut (envPass c) v

end Sys2Proof.Spec

open Sys2Proof Sys2Proof.Machine

/-! ## Encoding and the step -/

/-- Decoding the encoding of a well-formed instruction gives it back (30_encoding.md R45 to R49). -/
def Obligations.DecodeOfEncode : Prop := ∀ i : Instr, WellFormed i = true → decode (encode i) = .ok i

/-- A decoded command is well formed, and encoding it gives back the word and the operands its format takes. -/
def Obligations.EncodeOfDecode : Prop :=
  ∀ (p : Command) (i : Instr), decode p = .ok i →
    WellFormed i = true ∧ (encode i).cw = p.cw ∧ (Spec.OpTakesArg p.cw → (encode i).arg = p.arg) ∧
      (Spec.opOf p.cw = 8 → (encode i).blob = p.blob)

/-- A reserved word changes only the fault record (R50); every other word decodes to a row that is not reserved. Which ARG the
event of a word with a reserved field holds is read from R130 (log 8). -/
def Obligations.ReservedWordsFault : Prop :=
  (∀ (s : State) (p : Command) (rest : List Command) (arg : Arg), s.pending = p :: rest → Spec.ReservedWord p.cw →
    (Spec.OpTakesArg p.cw → arg = p.arg) → (¬ Spec.OpTakesArg p.cw → arg = 0) →
    step s = .next { s with
      pending := rest
      fault := s.fault ++ [⟨.reservedCommand, p.cw, arg⟩]
      result := .faulted ⟨.reservedCommand, p.cw, arg⟩ }) ∧
  ∀ p : Command, ¬ Spec.ReservedWord p.cw → ∃ i, decode p = .ok i ∧ ¬ Spec.ReservedRow i

/-- The reserved OP rows record their word with ARG 0 (log 8) and change nothing else (R50, R130, R131). -/
def Obligations.ReservedRowsRecordTheirWord : Prop :=
  ∀ (s : State) (rest : BitVec 28),
    (exec (.reserved0 rest) s = .next { s with
      fault := s.fault ++ [⟨.reservedCommand, rest ++ 0#4, 0⟩]
      result := .faulted ⟨.reservedCommand, rest ++ 0#4, 0⟩ }) ∧
    (exec (.reservedE rest) s = .next { s with
      fault := s.fault ++ [⟨.reservedCommand, rest ++ 14#4, 0⟩]
      result := .faulted ⟨.reservedCommand, rest ++ 14#4, 0⟩ }) ∧
    (exec (.reservedF rest) s = .next { s with
      fault := s.fault ++ [⟨.reservedCommand, rest ++ 15#4, 0⟩]
      result := .faulted ⟨.reservedCommand, rest ++ 15#4, 0⟩ })

/-- Words of 95_test_vectors.md section 3.1 decode as listed there. -/
def Obligations.ListedWordsDecode : Prop :=
  decode ⟨0x00011041, 0, none⟩ = .ok (.regWriteCtrl0 0x11 0) ∧
  decode ⟨0x0000F181, 5, none⟩ = .ok (.regWriteModeVol 0x0F 5) ∧
  decode ⟨0x000FFFF1, 0, none⟩ = .ok (.regWriteFrom80 0xFF 0xFF 0) ∧
  decode ⟨0x000001B2, 0, none⟩ = .ok .regReadOsc3 ∧
  decode ⟨0x00000003, 4410, none⟩ = .ok (.render 4410) ∧
  decode ⟨0x00011049, 0, none⟩ = .ok (.qEnqueue 0x04 0x11 0) ∧
  decode ⟨0x0000000B, 0, none⟩ = .ok .qFront ∧
  decode ⟨0x00100003, 0, none⟩ = .error .reservedBits ∧
  decode ⟨0x00000013, 0, none⟩ = .error .unusedAddr ∧
  decode ⟨0x000011C2, 0, none⟩ = .error .unusedData

/-- A step runs the next command that is pending; without one the chip stays as it is (the model's choice, log 1 and 2). -/
def Obligations.StepRunsTheNextCommand : Prop :=
  (∀ (s : State) (p : Command) (rest : List Command) (i : Instr), s.pending = p :: rest → decode p = .ok i →
    step s = exec i { s with pending := rest }) ∧
  ∀ s : State, s.pending = [] → step s = .next s

/-! ## REG_WRITE and REG_READ -/

/-- REG_WRITE on an active chip with room in its queue, for every row of an address 0x00..0x1F (R65). -/
def Obligations.ActiveRegWriteIsQueued : Prop :=
  ∀ (a : Fin 32) (d : Byte) (cycle : Arg) (s : State), 0 < s.chip.sampleRate → 0 < s.chip.clockRate →
    s.chip.queue.length < s.chip.qcap →
    exec (Spec.regWriteOf a d cycle) s = .next { s with
      chip := { s.chip with
        latch := d
        lastWriteCycle := cycle
        queue := s.chip.queue ++ [Spec.queuedEntry s.chip a d cycle] }
      result := .none }

/-- REG_WRITE into a full queue: the write is dropped, counted and reported; latch and baseline move (R57, R65). -/
def Obligations.ActiveRegWriteIntoFullQueueIsDropped : Prop :=
  ∀ (a : Fin 32) (d : Byte) (cycle : Arg) (s : State), 0 < s.chip.sampleRate → 0 < s.chip.clockRate →
    s.chip.queue.length = s.chip.qcap →
    exec (Spec.regWriteOf a d cycle) s = .next { s with
      chip := { s.chip with
        latch := d
        lastWriteCycle := cycle
        overflowCount := s.chip.overflowCount + 1 }
      diag := s.diag ++ [.queueOverflow (Spec.addrByte a) d]
      result := .none }

/-- REG_WRITE on an inert chip applies at once and queues nothing (R65); what the application does is stated for
`applyWrite` below. -/
def Obligations.InertRegWriteAppliesAtOnce : Prop :=
  ∀ (a : Fin 32) (d : Byte) (cycle : Arg) (s : State), (s.chip.sampleRate = 0 ∨ s.chip.clockRate = 0) →
    exec (Spec.regWriteOf a d cycle) s = .next { s with
      chip := { s.chip with
        latch := d
        lastWriteCycle := cycle
        regs := (applyWrite (Spec.addrByte a) d s.chip).regs
        voices := (applyWrite (Spec.addrByte a) d s.chip).voices }
      result := .none }

/-- REG_WRITE from address 0x20 up is ignored: not even the latch changes (R65, 20_memory.md R28). -/
def Obligations.RegWriteOutsideTheSpaceIsIgnored : Prop :=
  ∀ (addr d : Byte) (cycle : Arg) (s : State),
    (WellFormed (.regWriteFrom20 addr d cycle) = true →
      exec (.regWriteFrom20 addr d cycle) s = .next { s with result := .none }) ∧
    (WellFormed (.regWriteFrom40 addr d cycle) = true →
      exec (.regWriteFrom40 addr d cycle) s = .next { s with result := .none }) ∧
    (WellFormed (.regWriteFrom80 addr d cycle) = true →
      exec (.regWriteFrom80 addr d cycle) s = .next { s with result := .none })

/-- REG_READ of a write-only or unused address returns the latch; OSC3 the waveform, ENV3 the level of voice 2 (R66). -/
def Obligations.RegReadInsideTheSpace : Prop :=
  ∀ (a : Fin 32) (s : State),
    ((a.val ≤ 0x18 ∨ 0x1D ≤ a.val) →
      exec (Spec.regReadOf a) s = .next { s with result := .byte s.chip.latch }) ∧
    exec .regReadOsc3 s = .next { s with result := .byte (wave8 s.chip 2) } ∧
    exec .regReadEnv3 s =
      .next { s with result := .byte (BitVec.ofNat 8 ((voiceAt s.chip 2).E.toNat / 2 ^ 23)) }

/-- REG_READ of a paddle or outside the space returns a free byte and changes no state of the chip (R66); the counter behind
the free byte is the model's (log 4). -/
def Obligations.RegReadOfFreeBytes : Prop :=
  ∀ (addr : Byte) (s : State),
    exec .regReadPotx s = .next { s with drawn := s.drawn + 1, result := .byte (Config.draw s.drawn) } ∧
    exec .regReadPoty s = .next { s with drawn := s.drawn + 1, result := .byte (Config.draw s.drawn) } ∧
    (WellFormed (.regReadFrom20 addr) = true → exec (.regReadFrom20 addr) s =
      .next { s with drawn := s.drawn + 1, result := .byte (Config.draw s.drawn) }) ∧
    (WellFormed (.regReadFrom40 addr) = true → exec (.regReadFrom40 addr) s =
      .next { s with drawn := s.drawn + 1, result := .byte (Config.draw s.drawn) }) ∧
    (WellFormed (.regReadFrom80 addr) = true → exec (.regReadFrom80 addr) s =
      .next { s with drawn := s.drawn + 1, result := .byte (Config.draw s.drawn) })

/-! ## APPLY -/

/-- Every register but CTRL(v) and MODE_VOL: the whole byte is stored and nothing else changes (R68, R69, R71 to R74). -/
def Obligations.ApplyStoresTheByte : Prop :=
  ∀ (a : Fin 25) (d : Byte) (c : Chip), a.val ∉ [4, 11, 18, 24] →
    applyWrite (BitVec.ofNat 8 a) d c = { c with regs := c.regs.set a d }

/-- CTRL(v): the byte is stored and the gate event of the two GATE bits moves voice v alone, its state and index only
(R70, 44_envelope.md R109). -/
def Obligations.ApplyCtrlMakesTheGateEvent : Prop :=
  ∀ (v : VoiceId) (d : Byte) (c : Chip),
    let old := (c.regs.get (voiceAddr v 4)).getLsbD 0
    let x := voiceAt c v
    let c' := applyWrite (BitVec.ofNat 8 (7 * v.val + 4)) d c
    c' = { c with regs := c.regs.set (voiceAddr v 4) d, voices := c'.voices } ∧
    (∀ u, u ≠ v → voiceAt c' u = voiceAt c u) ∧
    (d.getLsbD 0 = true → (old = false ∨ x.env = .sustain ∨ x.env = .idle) →
      voiceAt c' v = { x with env := .attack, exp := 0 }) ∧
    (d.getLsbD 0 = true → old = true → x.env ≠ .sustain → x.env ≠ .idle → voiceAt c' v = x) ∧
    (d.getLsbD 0 = false → (x.env = .attack ∨ x.env = .decay ∨ x.env = .sustain) →
      voiceAt c' v = { x with env := .release }) ∧
    (d.getLsbD 0 = false → (x.env = .release ∨ x.env = .idle) → voiceAt c' v = x)

/-- MODE_VOL: a change of LP, BP or HP zeroes the integrators of all three voices, any other write none (R75). -/
def Obligations.ApplyModeVolResetsTheFilter : Prop :=
  ∀ (d : Byte) (c : Chip),
    let old := c.regs.get 0x18
    let same := old.getLsbD 4 = d.getLsbD 4 ∧ old.getLsbD 5 = d.getLsbD 5 ∧ old.getLsbD 6 = d.getLsbD 6
    let c' := applyWrite 0x18 d c
    c' = { c with regs := c.regs.set 0x18 d, voices := c'.voices } ∧
    (same → c'.voices = c.voices) ∧
    (¬ same → ∀ v, voiceAt c' v = { voiceAt c v with lo := 0, ref := 0 })

/-- From address 0x19 up APPLY has no effect (R76). -/
def Obligations.ApplyOutsideTheRegistersIsNothing : Prop :=
  ∀ (a d : Byte) (c : Chip), 0x19 ≤ a.toNat → applyWrite a d c = c

/-- The derived fields as numbers (10_state.md R18). -/
def Obligations.DerivedFieldsOfTheRegisters : Prop :=
  ∀ (c : Chip) (v : VoiceId),
    let r (k : Fin 7) : Nat := (c.regs.get (voiceAddr v k)).toNat
    (freq c v).toNat = 256 * r 1 + r 0 ∧
    (pulseWidth c v).toNat = 256 * (r 3 % 16) + r 2 ∧
    (gate c v = decide (r 4 % 2 = 1)) ∧ (sync c v = decide (r 4 / 2 % 2 = 1)) ∧
    (ring c v = decide (r 4 / 4 % 2 = 1)) ∧ (test c v = decide (r 4 / 8 % 2 = 1)) ∧
    (triSelected c v = decide (r 4 / 16 % 2 = 1)) ∧ (sawSelected c v = decide (r 4 / 32 % 2 = 1)) ∧
    (pulseSelected c v = decide (r 4 / 64 % 2 = 1)) ∧ (noiseSelected c v = decide (r 4 / 128 = 1)) ∧
    (attackRate c v).toNat = r 5 / 16 ∧ (decayRate c v).toNat = r 5 % 16 ∧
    (sustainNibble c v).toNat = r 6 / 16 ∧ (releaseRate c v).toNat = r 6 % 16 ∧
    (cutoff c).toNat = 8 * (c.regs.get 0x16).toNat + (c.regs.get 0x15).toNat % 8 ∧
    (resonance c).toNat = (c.regs.get 0x17).toNat / 16 ∧
    (filtered c v = decide ((c.regs.get 0x17).toNat / 2 ^ v.val % 2 = 1)) ∧
    (volume c).toNat = (c.regs.get 0x18).toNat % 16 ∧
    (lowPass c = decide ((c.regs.get 0x18).toNat / 16 % 2 = 1)) ∧
    (bandPass c = decide ((c.regs.get 0x18).toNat / 32 % 2 = 1)) ∧
    (highPass c = decide ((c.regs.get 0x18).toNat / 64 % 2 = 1)) ∧
    (off3 c = decide ((c.regs.get 0x18).toNat / 128 = 1)) ∧
    step32 c v = freqStep c.variant (freq c v) c.clockRate c.sampleRate ∧
    (sustainThreshold c v).toNat = (r 6 / 16 * 17) * 2 ^ 23

/-! ## The tick -/

/-- Accumulator and noise register of a voice over one tick: pass 1, the carry, and hard sync (43_voice.md R88, R89, R93). -/
def Obligations.OscillatorOverATick : Prop :=
  ∀ (c : Chip) (v : VoiceId),
    let x := voiceAt c v
    let y := voiceAt (tickChip c) v
    let own := fun r : Noise => Spec.Carries c v ∧ r = lfsrShift x.lfsr (noiseShiftPerWrap c.variant) ∨
      ¬ Spec.Carries c v ∧ r = x.lfsr
    (test c v = true → y.acc = 0 ∧ y.lfsr = 0x7FFFF8) ∧
    (test c v = false → sync c v = true → Spec.Carries c (v + 2) →
      y.acc = 0 ∧ ∃ r, own r ∧ y.lfsr = lfsrShift r (Spec.accAfterPass1 c (v + 2) / 2 ^ 28)) ∧
    (test c v = false → ¬ (sync c v = true ∧ Spec.Carries c (v + 2)) →
      y.acc.toNat = (x.acc.toNat + (step32 c v).toNat) % 2 ^ 32 ∧ own y.lfsr)

/-- One shift of the noise register in plain arithmetic; k shifts of a register that is not 0, which never reach 0; and the
reseeding of a register that is 0 (43_voice.md R90). -/
def Obligations.NoiseRegisterNeverShiftsToZero : Prop :=
  (∀ r : Noise, (lfsrStep r).toNat =
    2 * (r.toNat % 2 ^ 22) + (r.toNat / 2 ^ 22 + r.toNat / 2 ^ 17) % 2) ∧
  (∀ (r : Noise) (k : Nat), r ≠ 0 →
    lfsrShift r 0 = r ∧ lfsrShift r k ≠ 0 ∧ lfsrShift r (k + 1) = lfsrShift (lfsrStep r) k) ∧
  ∀ k : Nat, lfsrShift 0 k = 0x7FFFF8

/-- The accumulator sequence is periodic with period 2^32 / gcd(2^32, STEP) (43_voice.md R99). -/
def Obligations.AccumulatorIsPeriodic : Prop :=
  ∀ (c : Chip) (v : VoiceId), test c v = false →
    (∀ k, sync c v = true → ¬ Spec.Carries (ticks k c).2 (v + 2)) →
    let period := 2 ^ 32 / Nat.gcd (2 ^ 32) (step32 c v).toNat
    (∀ n, (voiceAt (ticks (n + period) c).2 v).acc = (voiceAt (ticks n c).2 v).acc) ∧
    ∀ p, 0 < p → (voiceAt (ticks p c).2 v).acc = (voiceAt c v).acc → period ∣ p

/-- The triangle folds on the sign bit xor the ring bit (43_voice.md R94). -/
def Obligations.TriangleFoldsOnSignAndRingBit : Prop :=
  ∀ (c : Chip) (v : VoiceId),
    let fold := (voiceAt c v).acc.getLsbD 31 ^^ (ring c v && (voiceAt c (v + 2)).acc.getLsbD 31)
    let t := (voiceAt c v).acc.toNat / 2 ^ 23 % 2 ^ 8
    (triWave c v).toNat = if fold then 255 - t else t

/-- Sawtooth, pulse and noise in plain arithmetic (43_voice.md R95, R96, R97). -/
def Obligations.SawPulseNoiseOfTheVoice : Prop :=
  ∀ (c : Chip) (v : VoiceId),
    (sawWave c v).toNat = (voiceAt c v).acc.toNat / 2 ^ 24 ∧
    (pulseWave c v = if (pulseWidth c v).toNat ≤ (voiceAt c v).acc.toNat / 2 ^ 20 then 0xFF else 0x00) ∧
    ∀ i : Fin 8, (noiseWave c v).getLsbD i = (voiceAt c v).lfsr.getLsbD ([2, 4, 7, 11, 13, 16, 20, 22].getD i 0)

/-- The selected generators are combined by AND; none selected gives 0 (43_voice.md R98). -/
def Obligations.WaveformIsTheAndOfTheSelected : Prop :=
  ∀ (c : Chip) (v : VoiceId),
    let on (b : Bool) (w : Byte) : Byte := if b then w else 0xFF
    wave8 c v =
      if (triSelected c v || sawSelected c v || pulseSelected c v || noiseSelected c v) = true then
        on (triSelected c v) (triWave c v) &&& on (sawSelected c v) (sawWave c v) &&&
          on (pulseSelected c v) (pulseWave c v) &&& on (noiseSelected c v) (noiseWave c v)
      else 0

/-- The envelope of a voice over one tick: attack, decay, release, and the hold of Sustain and Idle, each clamped at its
target, then the table index (44_envelope.md R102 to R108). For a table index beyond the table, which R111 rules out, the
shift of `Spec.fall` is the model's 0 (log 14). -/
def Obligations.EnvelopeOverATick : Prop :=
  ∀ (c : Chip) (v : VoiceId),
    let x := voiceAt c v
    let y := voiceAt (tickChip c) v
    let up : Nat := x.E.toNat + (attackStep c.variant c.sampleRate c.clockRate (attackRate c v)).toNat
    let down (rate : BitVec 4) : Int := x.E.toNat - Spec.fall c rate x.exp
    let target : Int := (sustainThreshold c v).toNat
    (x.env = .attack → y.E.toNat = min up 0x7FFFFFFF ∧ y.env = if 0x7FFFFFFF ≤ up then .decay else .attack) ∧
    (x.env = .decay → (y.E.toNat : Int) = max (down (decayRate c v)) target ∧
      y.env = if down (decayRate c v) ≤ target then .sustain else .decay) ∧
    (x.env = .release → (y.E.toNat : Int) = max (down (releaseRate c v)) 0 ∧
      y.env = if down (releaseRate c v) ≤ 0 then .idle else .release) ∧
    ((x.env = .sustain ∨ x.env = .idle) → y.E = x.E ∧ y.env = x.env) ∧
    (Spec.IndexAdvances c x.exp y.E y.env → y.exp = x.exp + 1) ∧
    (¬ Spec.IndexAdvances c x.exp y.E y.env → y.exp = x.exp)

/-- Over a tick the counter does not fall in Attack, does not rise in Release, does not rise in Decay from above the
threshold, and holds in Sustain and Idle (44_envelope.md R110). -/
def Obligations.EnvelopeIsMonotonic : Prop :=
  ∀ (c : Chip) (v : VoiceId),
    let x := voiceAt c v
    let y := voiceAt (tickChip c) v
    (x.env = .attack → x.E.toNat ≤ y.E.toNat) ∧
    (x.env = .release → y.E.toNat ≤ x.E.toNat) ∧
    (x.env = .decay → (sustainThreshold c v).toNat ≤ x.E.toNat → y.E.toNat ≤ x.E.toNat) ∧
    (x.env = .sustain ∨ x.env = .idle → y.E = x.E)

/-- The signal of a voice and its range (45_filter_mix.md R112). -/
def Obligations.VoiceSignalAndItsRange : Prop :=
  ∀ (c : Chip) (v : VoiceId),
    voiceOut c v = ((wave8 c v).toNat - 128 : Int) * ((voiceAt c v).E.toNat / 2 ^ 23 : Nat) ∧
    -32640 ≤ voiceOut c v ∧ voiceOut c v ≤ 32385

/-- The integrators over one tick: the filter step for a routed voice (45_filter_mix.md R114), a hold for an unrouted one
(R115). -/
def Obligations.IntegratorsOverATick : Prop :=
  ∀ (c : Chip) (v : VoiceId),
    (filtered c v = true →
      (voiceAt (tickChip c) v).ref.toInt = Spec.refOf c v ∧ (voiceAt (tickChip c) v).lo.toInt = Spec.loOf c v) ∧
    (filtered c v = false →
      (voiceAt (tickChip c) v).ref = (voiceAt c v).ref ∧ (voiceAt (tickChip c) v).lo = (voiceAt c v).lo)

/-- The sample of a tick: mix, shift, volume, clamp (45_filter_mix.md R117, R118). -/
def Obligations.SampleOfATick : Prop :=
  ∀ c : Chip, (tickSample c).toInt =
    max (-32768) (min 32767
      ((Spec.mixed c 0 + Spec.mixed c 1 + Spec.mixed c 2) / 2 ^ outShift c.variant * (volume c).toNat))

/-- Ticks run one after the other, each emitting its sample behind those before it (43_voice.md R86, 20_memory.md R35), and
change the voices and nothing else of the chip (R86: no step changes Reg[]). -/
def Obligations.TickChangesOnlyVoices : Prop :=
  (∀ c : Chip, ticks 0 c = ([], c)) ∧
  (∀ (k : Nat) (c : Chip),
    ticks (k + 1) c = (tickSample c :: (ticks k (tickChip c)).1, (ticks k (tickChip c)).2)) ∧
  ∀ (k : Nat) (c : Chip), (ticks k c).2 = { c with voices := (ticks k c).2.voices }

/-! ## RENDER -/

/-- RENDER(n) completes and emits exactly n samples, none for n ≤ 0 (42_render.md R77, R82). -/
def Obligations.RenderEmitsExactlyTheCount : Prop :=
  ∀ (n : Arg) (s : State), ∃ (t : State) (stream : List Sample),
    exec (.render n) s = .next t ∧ t.result = .samples stream ∧ stream.length = n.toInt.toNat

/-- RENDER of n ≤ 0 changes nothing, and an inert chip emits silence and changes nothing (42_render.md R77). -/
def Obligations.RenderWithoutWork : Prop :=
  ∀ (n : Arg) (s : State),
    (n.toInt ≤ 0 → exec (.render n) s = .next { s with result := .samples [] }) ∧
    (0 < n.toInt → (s.chip.sampleRate = 0 ∨ s.chip.clockRate = 0) →
      exec (.render n) s = .next { s with result := .samples (List.replicate n.toInt.toNat 0) })

/-- RENDER on an active chip with an empty queue free-runs: n ticks, then the baseline is 0 (42_render.md R81). -/
def Obligations.RenderOfAnEmptyQueueFreeRuns : Prop :=
  ∀ (n : Arg) (s : State), 0 < n.toInt → 0 < s.chip.sampleRate → 0 < s.chip.clockRate → s.chip.queue = [] →
    exec (.render n) s = .next { s with
      chip := { (ticks n.toInt.toNat s.chip).2 with lastWriteCycle := 0 }
      result := .samples (ticks n.toInt.toNat s.chip).1 }

/-- The replay loop. Its two ends: no samples left to make, and then the baseline keeps its value; and an empty queue, which
free-runs and zeroes the baseline (42_render.md R77, R81). With a front write: within the rest of the buffer the k samples,
the write, the remainder, and on (R79); beyond it the rest of the buffer and an exact decrement (R80). -/
def Obligations.ReplayOfTheFrontWrite : Prop :=
  (∀ (q : List Entry) (c : Chip), replay q 0 c = ([], c)) ∧
  (∀ (rem : Nat) (c : Chip), 0 < rem →
    replay [] rem c = ((ticks rem c).1, { (ticks rem c).2 with lastWriteCycle := 0 })) ∧
  ∀ (c : Chip) (e : Entry) (rest : List Entry) (rem : Nat), 0 < rem → 0 < c.clockRate → c.queue = e :: rest →
    let t := c.frac + e.delta
    let k := t / c.clockRate
    (k ≤ rem → replay c.queue rem c =
      let c1 := { (ticks k c).2 with queue := rest }
      let c2 := { applyWrite e.addr e.value c1 with frac := t % c.clockRate }
      ((ticks k c).1 ++ (replay rest (rem - k) c2).1, (replay rest (rem - k) c2).2)) ∧
    (rem < k → replay c.queue rem c =
      ((ticks rem c).1, { (ticks rem c).2 with
        queue := { e with delta := e.delta - rem * c.clockRate } :: rest }))

/-- RENDER on an active chip is BACKLOG(n) and then the replay loop from the chip it leaves (42_render.md R77). BACKLOG(n)
applies the oldest writes in order and no more than it must; what is left is at most one buffer long (R78, R83). -/
def Obligations.BacklogSkipsTheOldest : Prop :=
  (∀ (n : Arg) (s : State), 0 < n.toInt → 0 < s.chip.sampleRate → 0 < s.chip.clockRate →
    let c1 := backlog n.toInt.toNat s.chip
    let played := replay c1.queue n.toInt.toNat c1
    exec (.render n) s = .next { s with chip := played.2, result := .samples played.1 }) ∧
  ∀ (n : Nat) (c : Chip), ∃ skipped left, c.queue = skipped ++ left ∧
    backlog n c = { skipped.foldl (fun c e => applyWrite e.addr e.value c) c with queue := left } ∧
    totalDelta left ≤ n * c.clockRate ∧
    (∀ before last, skipped = before ++ [last] → n * c.clockRate < totalDelta (last :: left))

/-- After RENDER(n), n > 0, on a sound active chip, the queue is a suffix of what it was, unaltered (so no write was carried
over), and all of it lies before the next sample (42_render.md R83). -/
def Obligations.RenderLeavesLessThanASample : Prop :=
  ∀ (n : Arg) (s : State), s.chip.Sound → 0 < n.toInt → 0 < s.chip.sampleRate → 0 < s.chip.clockRate →
    ∃ t done, exec (.render n) s = .next t ∧ s.chip.queue = done ++ t.chip.queue ∧
      t.chip.frac + totalDelta t.chip.queue < s.chip.clockRate

/-- Time is exact (42_render.md R84): over a RENDER, the tau that were queued and the fraction are the tau skipped, the whole
samples rendered before the last write, and what is left. -/
def Obligations.RenderConservesTime : Prop :=
  ∀ (n : Arg) (s : State), s.chip.Sound → 0 < n.toInt → 0 < s.chip.sampleRate → 0 < s.chip.clockRate →
    ∃ t skipped kept m, exec (.render n) s = .next t ∧ s.chip.queue = skipped ++ kept ∧
      (totalDelta s.chip.queue ≤ n.toInt.toNat * s.chip.clockRate → skipped = []) ∧
      totalDelta kept ≤ n.toInt.toNat * s.chip.clockRate ∧ m ≤ n.toInt.toNat ∧
      s.chip.frac + totalDelta kept = m * s.chip.clockRate + t.chip.frac + totalDelta t.chip.queue

/-- Where a write lands (42_render.md R85): without a skip, the RENDER plays the rounds of the writes `before` and the ticks
that are left up to sample m = (frac + deltas) div clockRate, then applies the write behind them to the chip those m samples
leave, and goes on with the later writes. A write whose predecessors already fill the RENDER stays queued. -/
def Obligations.WriteLandsAtItsSample : Prop :=
  ∀ (n : Arg) (s : State) (before after : List Entry) (e : Entry), s.chip.Sound → 0 < n.toInt →
    0 < s.chip.sampleRate → 0 < s.chip.clockRate → s.chip.queue = before ++ e :: after →
    totalDelta s.chip.queue ≤ n.toInt.toNat * s.chip.clockRate →
    let c := s.chip
    let first := (c.frac + totalDelta before) / c.clockRate
    let time := c.frac + totalDelta before + e.delta
    let m := time / c.clockRate
    let played := Spec.rounds before c
    let lead := ticks (m - first) played.2
    let c2 := { applyWrite e.addr e.value { lead.2 with queue := after } with frac := time % c.clockRate }
    let later := replay after (n.toInt.toNat - m) c2
    (first < n.toInt.toNat → m ≤ n.toInt.toNat ∧ (played.1 ++ lead.1).length = m ∧
      exec (.render n) s = .next { s with chip := later.2, result := .samples (played.1 ++ lead.1 ++ later.1) }) ∧
    (n.toInt.toNat ≤ first → ∃ t left, exec (.render n) s = .next t ∧ t.chip.queue = left ++ e :: after)

/-- What RENDER never changes: the machine around the chip but its result, and the chip's configuration, rates, latch and
overflow count (42_render.md R77). -/
def Obligations.RenderFrame : Prop :=
  ∀ (n : Arg) (s t : State), exec (.render n) s = .next t →
    t.fault = s.fault ∧ t.diag = s.diag ∧ t.pending = s.pending ∧ t.drawn = s.drawn ∧
      t.chip.variant = s.chip.variant ∧ t.chip.qcap = s.chip.qcap ∧ t.chip.sampleRate = s.chip.sampleRate ∧
      t.chip.clockRate = s.chip.clockRate ∧ t.chip.latch = s.chip.latch ∧
      t.chip.overflowCount = s.chip.overflowCount ∧
      (t.chip.lastWriteCycle = s.chip.lastWriteCycle ∨ t.chip.lastWriteCycle = 0)

/-- Idempotent silence (45_filter_mix.md R119): from the RESET state every RENDER emits zeros, under every calibration. -/
def Obligations.SilenceStaysSilent : Prop :=
  (∀ (s t : State), exec .reset s = .next t → Spec.Silent t.chip) ∧
  ∀ (n : Arg) (s : State), Spec.Silent s.chip → ∃ t, exec (.render n) s = .next t ∧
    t.result = .samples (List.replicate n.toInt.toNat 0) ∧ Spec.Silent t.chip

/-! ## Queue commands -/

/-- Q_ENQUEUE: a negative delta faults, a full queue drops, else the entry is appended (40_queue.md R57, R60). -/
def Obligations.QueueEnqueue : Prop :=
  ∀ (addr d : Byte) (delta : Arg) (s : State),
    (delta.toInt < 0 → exec (.qEnqueue addr d delta) s = .next { s with
      fault := s.fault ++ [⟨.negativeDelta, 0#12 ++ d ++ addr ++ 9#4, delta⟩]
      result := .faulted ⟨.negativeDelta, 0#12 ++ d ++ addr ++ 9#4, delta⟩ }) ∧
    (0 ≤ delta.toInt → s.chip.queue.length ≠ s.chip.qcap → exec (.qEnqueue addr d delta) s = .next { s with
      chip := { s.chip with queue := s.chip.queue ++ [⟨addr, d, delta.toInt.toNat⟩] }
      result := .none }) ∧
    (0 ≤ delta.toInt → s.chip.queue.length = s.chip.qcap → exec (.qEnqueue addr d delta) s = .next { s with
      chip := { s.chip with overflowCount := s.chip.overflowCount + 1 }
      diag := s.diag ++ [.queueOverflow addr d]
      result := .none })

/-- Q_DEQUEUE discards the oldest entry, and does nothing on an empty queue (40_queue.md R61). -/
def Obligations.QueueDequeue : Prop :=
  ∀ s : State,
    (s.chip.queue = [] → exec .qDequeue s = .next { s with result := .none }) ∧
    ∀ e rest, s.chip.queue = e :: rest →
      exec .qDequeue s = .next { s with chip := { s.chip with queue := rest }, result := .none }

/-- Q_FRONT returns the oldest entry, and faults on an empty queue (40_queue.md R62). -/
def Obligations.QueueFront : Prop :=
  ∀ s : State,
    (s.chip.queue = [] → exec .qFront s = .next { s with
      fault := s.fault ++ [⟨.frontEmpty, 0x0000000B, 0⟩]
      result := .faulted ⟨.frontEmpty, 0x0000000B, 0⟩ }) ∧
    ∀ e rest, s.chip.queue = e :: rest → exec .qFront s = .next { s with result := .entry e }

/-- Q_SIZE returns the count and Q_TOTAL the sum of the deltas, both exact whatever their size (40_queue.md R63, R64), and as
the same number in 64 bits where 64 bits hold it (30_encoding.md R47); the 64-bit value of a larger number is free (log 11). -/
def Obligations.QueueSizeAndTotal : Prop :=
  ∀ s : State, ∃ size total : BitVec 64,
    exec .qSize s = .next { s with result := .value s.chip.queue.length size } ∧
    (s.chip.queue.length < 2 ^ 64 → size.toNat = s.chip.queue.length) ∧
    exec .qTotal s = .next { s with result := .value (s.chip.queue.map Entry.delta).sum total } ∧
    ((s.chip.queue.map Entry.delta).sum < 2 ^ 64 → total.toNat = (s.chip.queue.map Entry.delta).sum)

/-! ## Rates, snapshot, reset, power-on -/

/-- FLUSH applies every pending write in order and leaves an empty queue and no fraction (46_control.md R121). -/
def Obligations.FlushAppliesEveryWrite : Prop :=
  ∀ c : Chip, flush c =
    { c.queue.foldl (fun c e => applyWrite e.addr e.value c) c with queue := [], frac := 0 }

/-- SET_OUTPUT_RATE (46_control.md R122). -/
def Obligations.SetOutputRate : Prop :=
  ∀ (r : Arg) (s : State),
    (1 ≤ r.toInt → r.toInt ≤ 2147483647 → exec (.setOutputRate r) s = .next { s with
      chip := { flush s.chip with sampleRate := r.toInt.toNat }
      result := .status .ok }) ∧
    ((r.toInt < 1 ∨ 2147483647 < r.toInt) → exec (.setOutputRate r) s = .next { s with
      chip := { flush s.chip with sampleRate := 0 }
      result := .status .configInvalid })

/-- SET_CLOCK_RATE (46_control.md R123). -/
def Obligations.SetClockRate : Prop :=
  ∀ (c : Arg) (s : State),
    (1 ≤ c.toInt → exec (.setClockRate c) s = .next { s with
      chip := { flush s.chip with clockRate := c.toInt.toNat }
      result := .status .ok }) ∧
    (c.toInt < 1 → exec (.setClockRate c) s = .next { s with
      chip := { flush s.chip with clockRate := 0 }
      result := .status .configInvalid })

/-- SAVE_STATE returns the snapshot and changes nothing (46_control.md R125). -/
def Obligations.SaveStateReturnsTheSnapshot : Prop :=
  ∀ s : State, exec .saveState s = .next { s with result := .blob (snapshot s.chip) }

/-- LOAD_STATE sets every snapshot field to its value in a valid blob, and refuses any other with the fault record alone
changed (46_control.md R126). What is no snapshot record at all is not valid (the model's reading, log 9). -/
def Obligations.LoadState : Prop :=
  (∀ (b : Blob) (s : State), Spec.ValidBlob b s.chip → ∃ c : Chip, snapshot c = b ∧
    exec (.loadState (some b)) s = .next { s with chip := c, result := .none }) ∧
  ∀ (b : Option Blob) (s : State), (∀ b', b = some b' → ¬ Spec.ValidBlob b' s.chip) →
    exec (.loadState b) s = .next { s with
      fault := s.fault ++ [⟨.badStateBlob, 0x00000008, 0⟩]
      result := .faulted ⟨.badStateBlob, 0x00000008, 0⟩ }

/-- The save-state round trip (46_control.md R127): the snapshot of a sound chip, loaded at any later point into a machine of
the same variant and capacity, returns every snapshot field. -/
def Obligations.SnapshotRoundTrip : Prop :=
  ∀ s u : State, s.chip.Sound → u.chip.variant = s.chip.variant → u.chip.qcap = s.chip.qcap →
    exec (.loadState (some (snapshot s.chip))) u = .next { u with chip := s.chip, result := .none }

/-- Every command's results and effects on the chip are a function of the snapshot fields (46_control.md R127, 43_voice.md
R100); the free bytes are the same where their counter is (log 4). -/
def Obligations.CommandsDependOnTheSnapshotAlone : Prop :=
  ∀ (i : Instr) (s s' t t' : State), s.chip = s'.chip → s.drawn = s'.drawn →
    exec i s = .next t → exec i s' = .next t' →
    t.chip = t'.chip ∧ t.result = t'.result ∧ t.drawn = t'.drawn

/-- RESET sets every field of the reset column and keeps the rates, the configuration and the fault record
(70_reset_and_hazards.md R144). -/
def Obligations.ResetCommand : Prop :=
  ∀ s : State, ∃ t, exec .reset s = .next t ∧
    t = { s with chip := t.chip, result := .none } ∧
    t.chip = { s.chip with
      regs := Vector.replicate 25 0
      latch := 0
      voices := t.chip.voices
      queue := []
      frac := 0
      lastWriteCycle := 0
      overflowCount := 0 } ∧
    ∀ v, voiceAt t.chip v = ⟨0, 0x7FFFF8, .idle, 0, 0, 0, 0⟩

/-- Power-on (70_reset_and_hazards.md R143): which arguments make a chip; the machine it makes is inert and reads as the
power-on column of 10_state.md; the rule's example. That the state after reset is power-on's with the arguments of Config
is the model's choice (log 6). -/
def Obligations.PowerOn : Prop :=
  (∀ (variant : Variant) (q : Int), (variant ∉ Config.supportedVariants ∨ q < 1) →
    powerOn variant q = (.configInvalid, none)) ∧
  (∀ (variant : Variant) (q : Int), variant ∈ Config.supportedVariants → 1 ≤ q →
    ∃ s : State, powerOn variant q = (.ok, some s) ∧ s.chip.variant = variant ∧ (s.chip.qcap : Int) = q ∧
      s.chip.sampleRate = 0 ∧ s.chip.clockRate = 0 ∧ s.chip.regs = Vector.replicate 25 0 ∧ s.chip.latch = 0 ∧
      (∀ v, voiceAt s.chip v = ⟨0, 0x7FFFF8, .idle, 0, 0, 0, 0⟩) ∧ s.chip.queue = [] ∧ s.chip.frac = 0 ∧
      s.chip.lastWriteCycle = 0 ∧ s.chip.overflowCount = 0 ∧ s.fault = []) ∧
  powerOn .tc 4 = (.ok, some (State.powered .tc 4)) ∧
  powerOn Config.powerOnVariant Config.queueCapacity = (.ok, some State.reset)

/-! ## The whole machine -/

/-- The machine after power-on is sound. -/
def Obligations.ResetIsSound : Prop := State.reset.chip.Sound

/-- Every step keeps the chip sound (40_queue.md R56, 44_envelope.md R111, 10_state.md R24). -/
def Obligations.StepKeepsTheChipSound : Prop :=
  ∀ s t : State, s.chip.Sound → step s = .next t → t.chip.Sound

/-- Nothing the chip does stops it (60_exceptions.md R128, R131): every step has a next state. -/
def Obligations.NoStepStops : Prop := ∀ s : State, ∃ t, step s = .next t

/-- Faults are precise (60_exceptions.md R130, R132): a command whose outcome is a fault has appended that one event to the
record and changed nothing else. -/
def Obligations.FaultsArePrecise : Prop :=
  ∀ (i : Instr) (s t : State) (e : FaultEvent), exec i s = .next t → t.result = .faulted e →
    t = { s with fault := s.fault ++ [e], result := .faulted e }

/-- The fault record is never cleared and grows by one event at most; the diagnostic output is never cleared either
(60_exceptions.md R131, R132, R134). -/
def Obligations.RecordsOnlyGrow : Prop :=
  ∀ s t : State, step s = .next t →
    (t.fault = s.fault ∨ ∃ e, t.fault = s.fault ++ [e] ∧ t.result = .faulted e) ∧
    (t.diag = s.diag ∨ ∃ e, t.diag = s.diag ++ [e] ∧ t.chip.overflowCount = s.chip.overflowCount + 1)

/-- VARIANT and QCAP never change after power-on (10_state.md R15). -/
def Obligations.ConfigurationIsFixed : Prop :=
  ∀ s t : State, step s = .next t → t.chip.variant = s.chip.variant ∧ t.chip.qcap = s.chip.qcap

/-- On an active chip only RENDER, a rate change, RESET and LOAD_STATE change the registers and the voices
(20_memory.md R38, R39). -/
def Obligations.OnlyTheseCommandsReachSynthesis : Prop :=
  ∀ (i : Instr) (s t : State), active s.chip = true → ¬ Spec.ReachesSynthesis i → exec i s = .next t →
    t.chip.regs = s.chip.regs ∧ t.chip.voices = s.chip.voices

/-- The decay table of every variant has strictly decreasing thresholds (00_scope.md R9; enforced by the model, log 13). -/
def Obligations.DecayTableIsDecreasing : Prop :=
  ∀ variant : Variant, (decayTable variant).Pairwise (fun a b => b.1 < a.1)
end

