-- ==== Sys2Proof/Laws/Decode.lean ====
section
/-! SUPPORT. The fields of a command word as numbers, the fields of an encoded word, and the two decoders of an address from
0x20 up (30_encoding.md R45, R49). -/

namespace Sys2Proof

/-- An appended bit vector as a number. -/
theorem toNat_append_add {m n : Nat} (x : BitVec m) (y : BitVec n) :
    (x ++ y).toNat = x.toNat * 2 ^ n + y.toNat := by
  rw [BitVec.toNat_append, Nat.shiftLeft_eq, Nat.mul_comm, ← Nat.two_pow_add_eq_or_of_lt y.isLt]

/-- A command word as a number. -/
theorem commandWord_toNat (op : BitVec 4) (addr data : Byte) :
    (commandWord op addr data).toNat = op.toNat + 16 * addr.toNat + 4096 * data.toNat := by
  show (((0#12 ++ data) ++ addr) ++ op : BitVec (12 + 8 + 8 + 4)).toNat = _
  rw [toNat_append_add, toNat_append_add, toNat_append_add]
  simp
  omega

/-- The word of a reserved row as a number. -/
theorem reservedWord_toNat (rest : BitVec 28) (op : BitVec 4) :
    (rest ++ op : BitVec (28 + 4)).toNat = op.toNat + 16 * rest.toNat := by
  rw [toNat_append_add]
  omega

theorem opField_toNat (cw : CommandWord) : (opField cw).toNat = cw.toNat % 16 := by
  simp [opField, BitVec.extractLsb'_toNat]

theorem addrField_toNat (cw : CommandWord) : (addrField cw).toNat = cw.toNat / 16 % 256 := by
  simp [addrField, BitVec.extractLsb'_toNat, Nat.shiftRight_eq_div_pow]

theorem dataField_toNat (cw : CommandWord) : (dataField cw).toNat = cw.toNat / 4096 % 256 := by
  simp [dataField, BitVec.extractLsb'_toNat, Nat.shiftRight_eq_div_pow]

theorem rsvField_toNat (cw : CommandWord) : (rsvField cw).toNat = cw.toNat / 2 ^ 20 := by
  simp [rsvField, BitVec.extractLsb'_toNat, Nat.shiftRight_eq_div_pow]
  omega

theorem restField_toNat (cw : CommandWord) : (restField cw).toNat = cw.toNat / 16 := by
  simp [restField, BitVec.extractLsb'_toNat, Nat.shiftRight_eq_div_pow]
  omega

@[simp] theorem opField_commandWord (op : BitVec 4) (addr data : Byte) : opField (commandWord op addr data) = op := by
  apply BitVec.eq_of_toNat_eq
  rw [opField_toNat, commandWord_toNat]
  omega

@[simp] theorem addrField_commandWord (op : BitVec 4) (addr data : Byte) :
    addrField (commandWord op addr data) = addr := by
  apply BitVec.eq_of_toNat_eq
  rw [addrField_toNat, commandWord_toNat]
  omega

@[simp] theorem dataField_commandWord (op : BitVec 4) (addr data : Byte) :
    dataField (commandWord op addr data) = data := by
  apply BitVec.eq_of_toNat_eq
  rw [dataField_toNat, commandWord_toNat]
  omega

@[simp] theorem rsvField_commandWord (op : BitVec 4) (addr data : Byte) : rsvField (commandWord op addr data) = 0 := by
  apply BitVec.eq_of_toNat_eq
  rw [rsvField_toNat, commandWord_toNat]
  simp
  omega

/-- The decoder of a REG_WRITE to an address from 0x20 up. -/
theorem decodeRegWrite_of_ge (addr data : Byte) (cycle : Arg) (h : 0x20 ≤ addr.toNat) :
    decodeRegWrite addr data cycle =
      if addr.toNat < 0x40 then .regWriteFrom20 addr data cycle
      else if addr.toNat < 0x80 then .regWriteFrom40 addr data cycle
      else .regWriteFrom80 addr data cycle := by
  unfold decodeRegWrite
  split <;> first | omega | rfl

/-- The decoder of a REG_READ of an address from 0x20 up. -/
theorem decodeRegRead_of_ge (addr : Byte) (h : 0x20 ≤ addr.toNat) :
    decodeRegRead addr =
      if addr.toNat < 0x40 then .regReadFrom20 addr
      else if addr.toNat < 0x80 then .regReadFrom40 addr
      else .regReadFrom80 addr := by
  unfold decodeRegRead
  split <;> first | omega | rfl

end Sys2Proof
end

