-- ==== Sys2Proof/Laws/State.lean ====
section
/-! SUPPORT. One lemma per field per update of the state and of the chip, each true by rfl. -/

namespace Sys2Proof.Machine

/-! ## State.setChip -/

@[simp] theorem State.setChip_chip (s : State) (c : Chip) : (s.setChip c).chip = c := rfl
@[simp] theorem State.setChip_fault (s : State) (c : Chip) : (s.setChip c).fault = s.fault := rfl
@[simp] theorem State.setChip_diag (s : State) (c : Chip) : (s.setChip c).diag = s.diag := rfl
@[simp] theorem State.setChip_result (s : State) (c : Chip) : (s.setChip c).result = s.result := rfl
@[simp] theorem State.setChip_pending (s : State) (c : Chip) : (s.setChip c).pending = s.pending := rfl
@[simp] theorem State.setChip_drawn (s : State) (c : Chip) : (s.setChip c).drawn = s.drawn := rfl

/-! ## State.finish -/

@[simp] theorem State.finish_chip (s : State) (r : Result) : (s.finish r).chip = s.chip := rfl
@[simp] theorem State.finish_fault (s : State) (r : Result) : (s.finish r).fault = s.fault := rfl
@[simp] theorem State.finish_diag (s : State) (r : Result) : (s.finish r).diag = s.diag := rfl
@[simp] theorem State.finish_result (s : State) (r : Result) : (s.finish r).result = r := rfl
@[simp] theorem State.finish_pending (s : State) (r : Result) : (s.finish r).pending = s.pending := rfl
@[simp] theorem State.finish_drawn (s : State) (r : Result) : (s.finish r).drawn = s.drawn := rfl

/-! ## raiseFault -/

@[simp] theorem raiseFault_chip (s : State) (k : FaultCode) (w : CommandWord) (a : Arg) : (raiseFault s k w a).chip = s.chip := rfl
@[simp] theorem raiseFault_fault (s : State) (k : FaultCode) (w : CommandWord) (a : Arg) : (raiseFault s k w a).fault = s.fault ++ [⟨k, w, a⟩] := rfl
@[simp] theorem raiseFault_diag (s : State) (k : FaultCode) (w : CommandWord) (a : Arg) : (raiseFault s k w a).diag = s.diag := rfl
@[simp] theorem raiseFault_result (s : State) (k : FaultCode) (w : CommandWord) (a : Arg) : (raiseFault s k w a).result = .faulted ⟨k, w, a⟩ := rfl
@[simp] theorem raiseFault_pending (s : State) (k : FaultCode) (w : CommandWord) (a : Arg) : (raiseFault s k w a).pending = s.pending := rfl
@[simp] theorem raiseFault_drawn (s : State) (k : FaultCode) (w : CommandWord) (a : Arg) : (raiseFault s k w a).drawn = s.drawn := rfl

/-! ## returnDraw -/

@[simp] theorem returnDraw_chip (s : State) : (returnDraw s).chip = s.chip := rfl
@[simp] theorem returnDraw_fault (s : State) : (returnDraw s).fault = s.fault := rfl
@[simp] theorem returnDraw_diag (s : State) : (returnDraw s).diag = s.diag := rfl
@[simp] theorem returnDraw_result (s : State) : (returnDraw s).result = .byte (Config.draw s.drawn) := rfl
@[simp] theorem returnDraw_pending (s : State) : (returnDraw s).pending = s.pending := rfl
@[simp] theorem returnDraw_drawn (s : State) : (returnDraw s).drawn = s.drawn + 1 := rfl

/-! ## setReg -/

@[simp] theorem setReg_variant (c : Chip) (a : Fin 25) (d : Byte) : (setReg c a d).variant = c.variant := rfl
@[simp] theorem setReg_qcap (c : Chip) (a : Fin 25) (d : Byte) : (setReg c a d).qcap = c.qcap := rfl
@[simp] theorem setReg_sampleRate (c : Chip) (a : Fin 25) (d : Byte) : (setReg c a d).sampleRate = c.sampleRate := rfl
@[simp] theorem setReg_clockRate (c : Chip) (a : Fin 25) (d : Byte) : (setReg c a d).clockRate = c.clockRate := rfl
@[simp] theorem setReg_regs (c : Chip) (a : Fin 25) (d : Byte) : (setReg c a d).regs = c.regs.set a d := rfl
@[simp] theorem setReg_latch (c : Chip) (a : Fin 25) (d : Byte) : (setReg c a d).latch = c.latch := rfl
@[simp] theorem setReg_voices (c : Chip) (a : Fin 25) (d : Byte) : (setReg c a d).voices = c.voices := rfl
@[simp] theorem setReg_queue (c : Chip) (a : Fin 25) (d : Byte) : (setReg c a d).queue = c.queue := rfl
@[simp] theorem setReg_frac (c : Chip) (a : Fin 25) (d : Byte) : (setReg c a d).frac = c.frac := rfl
@[simp] theorem setReg_lastWriteCycle (c : Chip) (a : Fin 25) (d : Byte) : (setReg c a d).lastWriteCycle = c.lastWriteCycle := rfl
@[simp] theorem setReg_overflowCount (c : Chip) (a : Fin 25) (d : Byte) : (setReg c a d).overflowCount = c.overflowCount := rfl

/-! ## updateVoices -/

@[simp] theorem updateVoices_variant (c : Chip) (f : VoiceId → Voice → Voice) : (updateVoices c f).variant = c.variant := rfl
@[simp] theorem updateVoices_qcap (c : Chip) (f : VoiceId → Voice → Voice) : (updateVoices c f).qcap = c.qcap := rfl
@[simp] theorem updateVoices_sampleRate (c : Chip) (f : VoiceId → Voice → Voice) : (updateVoices c f).sampleRate = c.sampleRate := rfl
@[simp] theorem updateVoices_clockRate (c : Chip) (f : VoiceId → Voice → Voice) : (updateVoices c f).clockRate = c.clockRate := rfl
@[simp] theorem updateVoices_regs (c : Chip) (f : VoiceId → Voice → Voice) : (updateVoices c f).regs = c.regs := rfl
@[simp] theorem updateVoices_latch (c : Chip) (f : VoiceId → Voice → Voice) : (updateVoices c f).latch = c.latch := rfl
@[simp] theorem updateVoices_voices (c : Chip) (f : VoiceId → Voice → Voice) : (updateVoices c f).voices = c.voices.update f := rfl
@[simp] theorem updateVoices_queue (c : Chip) (f : VoiceId → Voice → Voice) : (updateVoices c f).queue = c.queue := rfl
@[simp] theorem updateVoices_frac (c : Chip) (f : VoiceId → Voice → Voice) : (updateVoices c f).frac = c.frac := rfl
@[simp] theorem updateVoices_lastWriteCycle (c : Chip) (f : VoiceId → Voice → Voice) : (updateVoices c f).lastWriteCycle = c.lastWriteCycle := rfl
@[simp] theorem updateVoices_overflowCount (c : Chip) (f : VoiceId → Voice → Voice) : (updateVoices c f).overflowCount = c.overflowCount := rfl

/-! ## popFront -/

@[simp] theorem popFront_variant (c : Chip) : (popFront c).variant = c.variant := rfl
@[simp] theorem popFront_qcap (c : Chip) : (popFront c).qcap = c.qcap := rfl
@[simp] theorem popFront_sampleRate (c : Chip) : (popFront c).sampleRate = c.sampleRate := rfl
@[simp] theorem popFront_clockRate (c : Chip) : (popFront c).clockRate = c.clockRate := rfl
@[simp] theorem popFront_regs (c : Chip) : (popFront c).regs = c.regs := rfl
@[simp] theorem popFront_latch (c : Chip) : (popFront c).latch = c.latch := rfl
@[simp] theorem popFront_voices (c : Chip) : (popFront c).voices = c.voices := rfl
@[simp] theorem popFront_queue (c : Chip) : (popFront c).queue = c.queue.tail := rfl
@[simp] theorem popFront_frac (c : Chip) : (popFront c).frac = c.frac := rfl
@[simp] theorem popFront_lastWriteCycle (c : Chip) : (popFront c).lastWriteCycle = c.lastWriteCycle := rfl
@[simp] theorem popFront_overflowCount (c : Chip) : (popFront c).overflowCount = c.overflowCount := rfl

/-! ## replayEmpty -/

@[simp] theorem replayEmpty_variant (c : Chip) : (replayEmpty c).variant = c.variant := rfl
@[simp] theorem replayEmpty_qcap (c : Chip) : (replayEmpty c).qcap = c.qcap := rfl
@[simp] theorem replayEmpty_sampleRate (c : Chip) : (replayEmpty c).sampleRate = c.sampleRate := rfl
@[simp] theorem replayEmpty_clockRate (c : Chip) : (replayEmpty c).clockRate = c.clockRate := rfl
@[simp] theorem replayEmpty_regs (c : Chip) : (replayEmpty c).regs = c.regs := rfl
@[simp] theorem replayEmpty_latch (c : Chip) : (replayEmpty c).latch = c.latch := rfl
@[simp] theorem replayEmpty_voices (c : Chip) : (replayEmpty c).voices = c.voices := rfl
@[simp] theorem replayEmpty_queue (c : Chip) : (replayEmpty c).queue = c.queue := rfl
@[simp] theorem replayEmpty_frac (c : Chip) : (replayEmpty c).frac = c.frac := rfl
@[simp] theorem replayEmpty_lastWriteCycle (c : Chip) : (replayEmpty c).lastWriteCycle = 0 := rfl
@[simp] theorem replayEmpty_overflowCount (c : Chip) : (replayEmpty c).overflowCount = c.overflowCount := rfl

/-! ## resetChip -/

@[simp] theorem resetChip_variant (c : Chip) : (resetChip c).variant = c.variant := rfl
@[simp] theorem resetChip_qcap (c : Chip) : (resetChip c).qcap = c.qcap := rfl
@[simp] theorem resetChip_sampleRate (c : Chip) : (resetChip c).sampleRate = c.sampleRate := rfl
@[simp] theorem resetChip_clockRate (c : Chip) : (resetChip c).clockRate = c.clockRate := rfl
@[simp] theorem resetChip_regs (c : Chip) : (resetChip c).regs = Vector.replicate 25 0 := rfl
@[simp] theorem resetChip_latch (c : Chip) : (resetChip c).latch = 0 := rfl
@[simp] theorem resetChip_voices (c : Chip) : (resetChip c).voices = ⟨resetVoice, resetVoice, resetVoice⟩ := rfl
@[simp] theorem resetChip_queue (c : Chip) : (resetChip c).queue = [] := rfl
@[simp] theorem resetChip_frac (c : Chip) : (resetChip c).frac = 0 := rfl
@[simp] theorem resetChip_lastWriteCycle (c : Chip) : (resetChip c).lastWriteCycle = 0 := rfl
@[simp] theorem resetChip_overflowCount (c : Chip) : (resetChip c).overflowCount = 0 := rfl

/-! ## Reading through an update -/

@[simp] theorem voiceAt_updateVoices (c : Chip) (f : VoiceId → Voice → Voice) (v : VoiceId) :
    voiceAt (updateVoices c f) v = f v (voiceAt c v) := by
  fin_cases v <;> rfl

@[simp] theorem voiceAt_setReg (c : Chip) (a : Fin 25) (d : Byte) (v : VoiceId) :
    voiceAt (setReg c a d) v = voiceAt c v := rfl

@[simp] theorem voiceAt_popFront (c : Chip) (v : VoiceId) : voiceAt (popFront c) v = voiceAt c v := rfl

@[simp] theorem regAt_updateVoices (c : Chip) (f : VoiceId → Voice → Voice) (a : Fin 25) :
    regAt (updateVoices c f) a = regAt c a := rfl

theorem regAt_setReg (c : Chip) (a b : Fin 25) (d : Byte) :
    regAt (setReg c a d) b = if b = a then d else regAt c b := by
  unfold regAt setReg
  by_cases h : b = a
  · subst h
    simp [Vector.get_eq_getElem]
  · have : (a : Nat) ≠ b := fun e => h (Fin.ext e.symm)
    simp [Vector.get_eq_getElem, h, this]

theorem voiceAt_updateVoice (c : Chip) (v u : VoiceId) (f : Voice → Voice) :
    voiceAt (updateVoice c v f) u = if u = v then f (voiceAt c u) else voiceAt c u := by
  simp [updateVoice]

/-- Two chips' voices are equal when each of the three is. -/
theorem Voices.ext_at {a b : Voices} (h : ∀ v, a.at v = b.at v) : a = b := by
  obtain ⟨a0, a1, a2⟩ := a
  obtain ⟨b0, b1, b2⟩ := b
  have h0 := h 0
  have h1 := h 1
  have h2 := h 2
  simp only [Voices.at] at h0 h1 h2
  subst h0 h1 h2
  rfl

end Sys2Proof.Machine
end

