-- ==== Sys2Proof/Laws/Ops.lean ====
section
/-! SUPPORT. What each shared operation can do, said once: the queue operations, the tick, APPLY, the loops of RENDER and FLUSH.
Proofs cite these instead of unfolding. -/

namespace Sys2Proof.Machine

/-! ## The queue -/

/-- ENQUEUE either drops the entry, when the queue is full, or appends it. -/
theorem enqueue_cases (s : State) (e : Entry) :
    (s.chip.queue.length = s.chip.qcap ∧
      enqueue s e = { s with
        chip := { s.chip with overflowCount := s.chip.overflowCount + 1 }
        diag := s.diag ++ [.queueOverflow e.addr e.value] }) ∨
    (s.chip.queue.length ≠ s.chip.qcap ∧
      enqueue s e = { s with chip := { s.chip with queue := s.chip.queue ++ [e] } }) := by
  unfold enqueue
  split
  · exact .inl ⟨by assumption, rfl⟩
  · exact .inr ⟨by assumption, rfl⟩

/-- The number is returned exact; its 64-bit value is the number where 64 bits hold it and the free value elsewhere. -/
theorem value64_cases (n : Nat) (wide : BitVec 64) :
    ∃ r, value64 n wide = .value n r ∧ (n < 2 ^ 64 → r.toNat = n) ∧ (2 ^ 64 ≤ n → r = wide) := by
  refine ⟨_, rfl, fun h => ?_, fun h => ?_⟩
  · rw [if_pos h, BitVec.toNat_ofNat, Nat.mod_eq_of_lt h]
  · rw [if_neg (by omega)]

@[simp] theorem totalDelta_nil : totalDelta [] = 0 := rfl

@[simp] theorem totalDelta_cons (e : Entry) (q : List Entry) :
    totalDelta (e :: q) = e.delta + totalDelta q := by
  simp [totalDelta]

@[simp] theorem totalDelta_append (p q : List Entry) :
    totalDelta (p ++ q) = totalDelta p + totalDelta q := by
  simp [totalDelta]

/-! ## The tick -/

/-- A tick changes the voices and nothing else. -/
theorem tickChip_frame (c : Chip) : tickChip c = { c with voices := (tickChip c).voices } := rfl

/-- So does any number of ticks. -/
theorem ticks_frame (k : Nat) (c : Chip) :
    (ticks k c).2 = { c with voices := (ticks k c).2.voices } := by
  induction k generalizing c with
  | zero => rfl
  | succ k ih =>
    show (ticks k (tickChip c)).2 = _
    rw [ih (tickChip c)]
    rfl

/-- k ticks emit k samples. -/
@[simp] theorem ticks_length (k : Nat) (c : Chip) : (ticks k c).1.length = k := by
  induction k generalizing c with
  | zero => rfl
  | succ k ih => simp [ticks, ih]

/-- Ticks compose. -/
theorem ticks_add (j k : Nat) (c : Chip) :
    ticks (j + k) c = ((ticks j c).1 ++ (ticks k (ticks j c).2).1, (ticks k (ticks j c).2).2) := by
  induction j generalizing c with
  | zero => simp [ticks]
  | succ j ih => simp [Nat.succ_add, ticks, ih]

/-- What a tick leaves of a voice, pass by pass (43_voice.md R86). -/
theorem voiceAt_tickChip (c : Chip) (v : VoiceId) :
    voiceAt (tickChip c) v = filterTick (envPass c) v (voiceAt (envPass c) v) := by
  simp [tickChip]

theorem voiceAt_envPass (c : Chip) (v : VoiceId) :
    voiceAt (envPass c) v = envStep c v (voiceAt (syncPass c) v) := by
  simp [envPass]

theorem voiceAt_syncPass (c : Chip) (v : VoiceId) :
    voiceAt (syncPass c) v =
      syncVoice c (wrapped c) (fun u => (voiceAt (advancePass c) u).acc) v (voiceAt (advancePass c) v) := by
  simp [syncPass]

theorem voiceAt_advancePass (c : Chip) (v : VoiceId) :
    voiceAt (advancePass c) v = advance c v (voiceAt c v) := by
  simp [advancePass]

/-- The filter changes only a voice's integrators. -/
theorem filterTick_frame (c : Chip) (v : VoiceId) (x : Voice) :
    filterTick c v x = { x with lo := (filterTick c v x).lo, ref := (filterTick c v x).ref } := by
  unfold filterTick
  split <;> rfl

/-- The envelope step changes only a voice's state, counter and table index. -/
theorem envStep_frame (c : Chip) (v : VoiceId) (x : Voice) :
    envStep c v x =
      { x with env := (envStep c v x).env, E := (envStep c v x).E, exp := (envStep c v x).exp } := by
  unfold envStep lutTick envStateTick attackTick decayTick releaseTick
  cases x.env <;> simp only [] <;> split <;> (try split) <;> rfl

/-- Passes 1 and 2 change only a voice's accumulator and noise register. -/
theorem advance_frame (c : Chip) (v : VoiceId) (x : Voice) :
    advance c v x = { x with acc := (advance c v x).acc, lfsr := (advance c v x).lfsr } := by
  unfold advance
  split <;> rfl

theorem syncVoice_frame (c : Chip) (w : VoiceId → Bool) (n : VoiceId → Phase) (d : VoiceId) (x : Voice) :
    syncVoice c w n d x =
      { x with acc := (syncVoice c w n d x).acc, lfsr := (syncVoice c w n d x).lfsr } := by
  unfold syncVoice
  split <;> rfl

/-- The envelope state rules leave the table index alone. -/
@[simp] theorem envStateTick_exp (c : Chip) (v : VoiceId) (x : Voice) : (envStateTick c v x).exp = x.exp := by
  unfold envStateTick attackTick decayTick releaseTick
  cases x.env <;> simp only [] <;> split <;> rfl

/-- The table index moves by one at most, and only below the end of the table (44_envelope.md R108). -/
theorem lutTick_exp_le (variant : Variant) (x : Voice) (h : x.exp ≤ lutK variant) :
    (lutTick variant x).exp ≤ lutK variant := by
  unfold lutTick
  by_cases hb : belowThreshold variant x = true
  · have hlt : x.exp < lutK variant := by
      unfold belowThreshold at hb
      cases hr : (decayTable variant)[x.exp]? with
      | none => cases he : x.env <;> simp [hr, he] at hb
      | some row => exact (List.getElem?_eq_some_iff.mp hr).1
    simpa [hb] using hlt
  · simpa [hb] using h

/-! ## APPLY -/

/-- APPLY changes the registers and the voices and nothing else. -/
theorem applyWrite_frame (a d : Byte) (c : Chip) :
    applyWrite a d c = { c with regs := (applyWrite a d c).regs, voices := (applyWrite a d c).voices } := by
  unfold applyWrite
  split <;> try rfl
  unfold applyModeVol
  split <;> rfl

@[simp] theorem applyWrite_variant (a d : Byte) (c : Chip) : (applyWrite a d c).variant = c.variant := by
  rw [applyWrite_frame]
@[simp] theorem applyWrite_qcap (a d : Byte) (c : Chip) : (applyWrite a d c).qcap = c.qcap := by
  rw [applyWrite_frame]
@[simp] theorem applyWrite_sampleRate (a d : Byte) (c : Chip) :
    (applyWrite a d c).sampleRate = c.sampleRate := by rw [applyWrite_frame]
@[simp] theorem applyWrite_clockRate (a d : Byte) (c : Chip) :
    (applyWrite a d c).clockRate = c.clockRate := by rw [applyWrite_frame]
@[simp] theorem applyWrite_latch (a d : Byte) (c : Chip) : (applyWrite a d c).latch = c.latch := by
  rw [applyWrite_frame]
@[simp] theorem applyWrite_queue (a d : Byte) (c : Chip) : (applyWrite a d c).queue = c.queue := by
  rw [applyWrite_frame]
@[simp] theorem applyWrite_frac (a d : Byte) (c : Chip) : (applyWrite a d c).frac = c.frac := by
  rw [applyWrite_frame]
@[simp] theorem applyWrite_lastWriteCycle (a d : Byte) (c : Chip) :
    (applyWrite a d c).lastWriteCycle = c.lastWriteCycle := by rw [applyWrite_frame]
@[simp] theorem applyWrite_overflowCount (a d : Byte) (c : Chip) :
    (applyWrite a d c).overflowCount = c.overflowCount := by rw [applyWrite_frame]

/-- A gate event leaves a voice's table index or zeroes it (44_envelope.md R109). -/
theorem gateEvent_exp (old new : Bool) (x : Voice) :
    (gateEvent old new x).exp = x.exp ∨ (gateEvent old new x).exp = 0 := by
  unfold gateEvent
  split
  · split
    · exact .inr rfl
    · exact .inl rfl
  · split <;> exact .inl rfl

/-- So does APPLY. -/
theorem applyWrite_exp (a d : Byte) (c : Chip) (v : VoiceId) :
    (voiceAt (applyWrite a d c) v).exp = (voiceAt c v).exp ∨ (voiceAt (applyWrite a d c) v).exp = 0 := by
  have ctrlCase (u : VoiceId) : (voiceAt (applyCtrl u d c) v).exp = (voiceAt c v).exp ∨
      (voiceAt (applyCtrl u d c) v).exp = 0 := by
    unfold applyCtrl
    rw [voiceAt_updateVoice]
    split
    · exact gateEvent_exp _ _ _
    · exact .inl rfl
  unfold applyWrite
  split <;> first
    | exact .inl rfl
    | exact ctrlCase _
    | skip
  unfold applyModeVol
  split
  · left
    simp [clearFilter]
  · exact .inl rfl

/-- Popping and applying the front entry changes the registers, the voices and the queue. -/
theorem applyFront_frame (e : Entry) (c : Chip) :
    applyFront e c = { c with
      regs := (applyFront e c).regs
      voices := (applyFront e c).voices
      queue := c.queue.tail } := by
  unfold applyFront
  rw [applyWrite_frame]
  rfl

/-! ## The loops

A property of the chip that popping and applying a write keeps is kept by the loops. -/

theorem flushLoop_keeps {α : Type} (f : Chip → α) (hf : ∀ e c, f (applyFront e c) = f c)
    (q : List Entry) (c : Chip) : f (flushLoop q c) = f c := by
  induction q generalizing c with
  | nil => rfl
  | cons e rest ih => exact (ih _).trans (hf e c)

theorem backlogLoop_keeps {α : Type} (f : Chip → α) (hf : ∀ e c, f (applyFront e c) = f c)
    (q : List Entry) (x : Int) (c : Chip) : f (backlogLoop q x c) = f c := by
  induction q generalizing c x with
  | nil => rfl
  | cons e rest ih =>
    unfold backlogLoop
    split
    · exact (ih _ _).trans (hf e c)
    · rfl

/-- FLUSH empties the queue. -/
theorem flushLoop_queue (q : List Entry) (c : Chip) (h : c.queue = q) : (flushLoop q c).queue = [] := by
  induction q generalizing c with
  | nil => exact h
  | cons e rest ih => exact ih _ (by simp [applyFront, h])

@[simp] theorem flush_queue (c : Chip) : (flush c).queue = [] := flushLoop_queue _ c rfl

@[simp] theorem flush_frac (c : Chip) : (flush c).frac = 0 := rfl

@[simp] theorem flush_variant (c : Chip) : (flush c).variant = c.variant :=
  flushLoop_keeps (·.variant) (fun e c => by simp [applyFront]) c.queue c

@[simp] theorem flush_qcap (c : Chip) : (flush c).qcap = c.qcap :=
  flushLoop_keeps (·.qcap) (fun e c => by simp [applyFront]) c.queue c

@[simp] theorem flush_sampleRate (c : Chip) : (flush c).sampleRate = c.sampleRate :=
  flushLoop_keeps (·.sampleRate) (fun e c => by simp [applyFront]) c.queue c

@[simp] theorem flush_clockRate (c : Chip) : (flush c).clockRate = c.clockRate :=
  flushLoop_keeps (·.clockRate) (fun e c => by simp [applyFront]) c.queue c

@[simp] theorem flush_latch (c : Chip) : (flush c).latch = c.latch :=
  flushLoop_keeps (·.latch) (fun e c => by simp [applyFront]) c.queue c

@[simp] theorem flush_lastWriteCycle (c : Chip) : (flush c).lastWriteCycle = c.lastWriteCycle :=
  flushLoop_keeps (·.lastWriteCycle) (fun e c => by simp [applyFront]) c.queue c

@[simp] theorem flush_overflowCount (c : Chip) : (flush c).overflowCount = c.overflowCount :=
  flushLoop_keeps (·.overflowCount) (fun e c => by simp [applyFront]) c.queue c

/-- BACKLOG leaves a suffix of the queue. -/
theorem backlogLoop_queue (q : List Entry) (x : Int) (c : Chip) (h : c.queue = q) :
    ∃ done, q = done ++ (backlogLoop q x c).queue := by
  induction q generalizing c x with
  | nil => exact ⟨[], by simp [backlogLoop, h]⟩
  | cons e rest ih =>
    unfold backlogLoop
    split
    · obtain ⟨done, hd⟩ := ih (x - e.delta) (applyFront e c) (by simp [applyFront, h])
      exact ⟨e :: done, by rw [List.cons_append, ← hd]⟩
    · exact ⟨[], by simp [h]⟩

@[simp] theorem backlog_variant (n : Nat) (c : Chip) : (backlog n c).variant = c.variant :=
  backlogLoop_keeps (·.variant) (fun e c => by simp [applyFront]) c.queue _ c

@[simp] theorem backlog_qcap (n : Nat) (c : Chip) : (backlog n c).qcap = c.qcap :=
  backlogLoop_keeps (·.qcap) (fun e c => by simp [applyFront]) c.queue _ c

@[simp] theorem backlog_sampleRate (n : Nat) (c : Chip) : (backlog n c).sampleRate = c.sampleRate :=
  backlogLoop_keeps (·.sampleRate) (fun e c => by simp [applyFront]) c.queue _ c

@[simp] theorem backlog_clockRate (n : Nat) (c : Chip) : (backlog n c).clockRate = c.clockRate :=
  backlogLoop_keeps (·.clockRate) (fun e c => by simp [applyFront]) c.queue _ c

@[simp] theorem backlog_latch (n : Nat) (c : Chip) : (backlog n c).latch = c.latch :=
  backlogLoop_keeps (·.latch) (fun e c => by simp [applyFront]) c.queue _ c

@[simp] theorem backlog_frac (n : Nat) (c : Chip) : (backlog n c).frac = c.frac :=
  backlogLoop_keeps (·.frac) (fun e c => by simp [applyFront]) c.queue _ c

@[simp] theorem backlog_lastWriteCycle (n : Nat) (c : Chip) : (backlog n c).lastWriteCycle = c.lastWriteCycle :=
  backlogLoop_keeps (·.lastWriteCycle) (fun e c => by simp [applyFront]) c.queue _ c

@[simp] theorem backlog_overflowCount (n : Nat) (c : Chip) : (backlog n c).overflowCount = c.overflowCount :=
  backlogLoop_keeps (·.overflowCount) (fun e c => by simp [applyFront]) c.queue _ c

@[simp] theorem ticks_variant (k : Nat) (c : Chip) : (ticks k c).2.variant = c.variant := by
  rw [ticks_frame]

@[simp] theorem ticks_qcap (k : Nat) (c : Chip) : (ticks k c).2.qcap = c.qcap := by
  rw [ticks_frame]

@[simp] theorem ticks_sampleRate (k : Nat) (c : Chip) : (ticks k c).2.sampleRate = c.sampleRate := by
  rw [ticks_frame]

@[simp] theorem ticks_clockRate (k : Nat) (c : Chip) : (ticks k c).2.clockRate = c.clockRate := by
  rw [ticks_frame]

@[simp] theorem ticks_regs (k : Nat) (c : Chip) : (ticks k c).2.regs = c.regs := by
  rw [ticks_frame]

@[simp] theorem ticks_latch (k : Nat) (c : Chip) : (ticks k c).2.latch = c.latch := by
  rw [ticks_frame]

@[simp] theorem ticks_queue (k : Nat) (c : Chip) : (ticks k c).2.queue = c.queue := by
  rw [ticks_frame]

@[simp] theorem ticks_frac (k : Nat) (c : Chip) : (ticks k c).2.frac = c.frac := by
  rw [ticks_frame]

@[simp] theorem ticks_lastWriteCycle (k : Nat) (c : Chip) : (ticks k c).2.lastWriteCycle = c.lastWriteCycle := by
  rw [ticks_frame]

@[simp] theorem ticks_overflowCount (k : Nat) (c : Chip) : (ticks k c).2.overflowCount = c.overflowCount := by
  rw [ticks_frame]

/-- A property of the chip that ticking, popping and applying a write, setting the fraction, shortening the front entry and
resetting the baseline keep is kept by the replay loop (42_render.md R79 to R81). -/
theorem replay_keeps {α : Type} (f : Chip → α) (ht : ∀ k c, f (ticks k c).2 = f c)
    (hw : ∀ t e c, f (replayWithin t e c) = f c) (hb : ∀ m c, f (replayBeyond m c) = f c)
    (he : ∀ c, f (replayEmpty c) = f c) (q : List Entry) (rem : Nat) (c : Chip) :
    f (replay q rem c).2 = f c := by
  induction q generalizing c rem with
  | nil =>
    cases rem with
    | zero => rfl
    | succ n => exact (he _).trans (ht _ _)
  | cons e rest ih =>
    cases rem with
    | zero => rfl
    | succ n =>
      unfold replay
      split
      · exact (ih _ _).trans ((hw _ _ _).trans (ht _ _))
      · exact (hb _ _).trans (ht _ _)

end Sys2Proof.Machine
end

