-- ==== Sys2Proof/Laws/Exec.lean ====
section
/-! SUPPORT. What a bus operation, a command and a step can do, said once, and how a write commutes with the queue. -/

namespace Sys2Proof.Machine

/-- APPLY neither reads nor writes the queue. -/
theorem applyWrite_setQueue (a d : Byte) (c : Chip) (q : List Entry) :
    applyWrite a d { c with queue := q } = { applyWrite a d c with queue := q } := by
  unfold applyWrite
  split <;> try rfl
  unfold applyModeVol
  by_cases h : filterTypeChanged (regAt c 0x18) d = true
  · rw [if_pos h, if_pos (show filterTypeChanged (regAt { c with queue := q } 0x18) d = true from h)]
    rfl
  · rw [if_neg h, if_neg (show ¬ filterTypeChanged (regAt { c with queue := q } 0x18) d = true from h)]
    rfl

/-- Popping and applying the front entry, as the applied write and the shorter queue. -/
theorem applyFront_eq (e : Entry) (c : Chip) :
    applyFront e c = { applyWrite e.addr e.value c with queue := c.queue.tail } := by
  unfold applyFront popFront
  rw [applyWrite_setQueue]

/-- One round of the replay loop (42_render.md R77). -/
theorem replay_cons_succ (e : Entry) (rest : List Entry) (n : Nat) (c : Chip) :
    replay (e :: rest) (n + 1) c =
      if frontSamples c e ≤ n + 1 then
        ((ticks (frontSamples c e) c).1 ++
          (replay rest (n + 1 - frontSamples c e)
            (replayWithin (frontTime c e) e (ticks (frontSamples c e) c).2)).1,
          (replay rest (n + 1 - frontSamples c e)
            (replayWithin (frontTime c e) e (ticks (frontSamples c e) c).2)).2)
      else ((ticks (n + 1) c).1, replayBeyond (n + 1) (ticks (n + 1) c).2) := rfl

/-- REG_WRITE is ignored, enqueues a write of an active chip, or applies one of an inert chip (41_bus_interface.md R65). -/
theorem regWrite_cases (addr data : Byte) (cycle : Arg) (s : State) :
    (0x20 ≤ addr ∧ regWrite addr data cycle s = s.finish .none) ∨
    (active s.chip = true ∧ regWrite addr data cycle s =
      (enqueue (s.setChip { s.chip with latch := data, lastWriteCycle := cycle })
        (writeEntry s.chip addr data cycle)).finish .none) ∨
    (active s.chip = false ∧ regWrite addr data cycle s =
      (s.setChip { applyWrite addr data { s.chip with latch := data } with lastWriteCycle := cycle }).finish .none) := by
  unfold regWrite
  split
  · exact .inl ⟨by assumption, rfl⟩
  · split
    · exact .inr (.inl ⟨by assumption, rfl⟩)
    · rename_i h
      exact .inr (.inr ⟨by simpa using h, rfl⟩)

/-- REG_READ changes only what the command returns and the counter of free bytes (41_bus_interface.md R66). -/
theorem regRead_cases (addr : Byte) (s : State) :
    (∃ b, regRead addr s = s.finish (.byte b)) ∨ regRead addr s = returnDraw s := by
  unfold regRead
  repeat' split
  all_goals first | exact .inl ⟨_, rfl⟩ | exact .inr rfl

/-- Every command is a bus write, a bus read, or one of the commands listed. -/
theorem exec_cases (i : Instr) :
    (∃ addr data cycle, ∀ s, exec i s = .next (regWrite addr data cycle s)) ∨
    (∃ addr, ∀ s, exec i s = .next (regRead addr s)) ∨
    (∃ n, i = .render n) ∨ (∃ r, i = .setOutputRate r) ∨ (∃ r, i = .setClockRate r) ∨ i = .reset ∨
    i = .saveState ∨ (∃ b, i = .loadState b) ∨ (∃ a d n, i = .qEnqueue a d n) ∨ i = .qDequeue ∨ i = .qFront ∨
    i = .qSize ∨ i = .qTotal ∨ (∃ r, i = .reserved0 r) ∨ (∃ r, i = .reservedE r) ∨ (∃ r, i = .reservedF r) := by
  cases i
  case render | setOutputRate | setClockRate | reset | saveState | loadState | qEnqueue | qDequeue | qFront | qSize |
      qTotal | reserved0 | reservedE | reservedF => simp
  all_goals first
    | exact .inl ⟨_, _, _, fun _ => rfl⟩
    | exact .inr (.inl ⟨_, fun _ => rfl⟩)

/-- A step waits, executes the next command, or records a word that has no row. -/
theorem step_cases (s : State) :
    (s.pending = [] ∧ step s = .next s) ∨
    (∃ p rest i, s.pending = p :: rest ∧ decode p = .ok i ∧ step s = exec i { s with pending := rest }) ∨
    (∃ p rest e, s.pending = p :: rest ∧ decode p = .error e ∧
      step s = .next (rejectCommand { s with pending := rest } p)) := by
  cases hp : s.pending with
  | nil => exact .inl ⟨rfl, by simp [step, fetch, hp]⟩
  | cons p rest =>
    cases hd : decode p with
    | ok i => exact .inr (.inl ⟨p, rest, i, rfl, hd, by simp [step, fetch, hp, hd]⟩)
    | error e => exact .inr (.inr ⟨p, rest, e, rfl, hd, by simp [step, fetch, hp, hd]⟩)

end Sys2Proof.Machine
end

