-- ==== Sys2Proof/Laws/PerInstr.lean ====
section
/-! SUPPORT. The family EncodesItsRow: the word of a well-formed instruction matches its row of spec/opcode_table.json, one
lemma per constructor. -/

namespace Sys2Proof.Laws

/-- The mask and the match of an instruction's row of spec/opcode_table.json. -/
def rowOf : Instr → CommandWord × CommandWord
  | .regWriteFreqLo0 _ _ => (0xFFF00FFF, 0x00000001)
  | .regWriteFreqHi0 _ _ => (0xFFF00FFF, 0x00000011)
  | .regWritePwLo0 _ _ => (0xFFF00FFF, 0x00000021)
  | .regWritePwHi0 _ _ => (0xFFF00FFF, 0x00000031)
  | .regWriteCtrl0 _ _ => (0xFFF00FFF, 0x00000041)
  | .regWriteAd0 _ _ => (0xFFF00FFF, 0x00000051)
  | .regWriteSr0 _ _ => (0xFFF00FFF, 0x00000061)
  | .regWriteFreqLo1 _ _ => (0xFFF00FFF, 0x00000071)
  | .regWriteFreqHi1 _ _ => (0xFFF00FFF, 0x00000081)
  | .regWritePwLo1 _ _ => (0xFFF00FFF, 0x00000091)
  | .regWritePwHi1 _ _ => (0xFFF00FFF, 0x000000A1)
  | .regWriteCtrl1 _ _ => (0xFFF00FFF, 0x000000B1)
  | .regWriteAd1 _ _ => (0xFFF00FFF, 0x000000C1)
  | .regWriteSr1 _ _ => (0xFFF00FFF, 0x000000D1)
  | .regWriteFreqLo2 _ _ => (0xFFF00FFF, 0x000000E1)
  | .regWriteFreqHi2 _ _ => (0xFFF00FFF, 0x000000F1)
  | .regWritePwLo2 _ _ => (0xFFF00FFF, 0x00000101)
  | .regWritePwHi2 _ _ => (0xFFF00FFF, 0x00000111)
  | .regWriteCtrl2 _ _ => (0xFFF00FFF, 0x00000121)
  | .regWriteAd2 _ _ => (0xFFF00FFF, 0x00000131)
  | .regWriteSr2 _ _ => (0xFFF00FFF, 0x00000141)
  | .regWriteFcLo _ _ => (0xFFF00FFF, 0x00000151)
  | .regWriteFcHi _ _ => (0xFFF00FFF, 0x00000161)
  | .regWriteResFilt _ _ => (0xFFF00FFF, 0x00000171)
  | .regWriteModeVol _ _ => (0xFFF00FFF, 0x00000181)
  | .regWritePotx _ _ => (0xFFF00FFF, 0x00000191)
  | .regWritePoty _ _ => (0xFFF00FFF, 0x000001A1)
  | .regWriteOsc3 _ _ => (0xFFF00FFF, 0x000001B1)
  | .regWriteEnv3 _ _ => (0xFFF00FFF, 0x000001C1)
  | .regWriteUnused1D _ _ => (0xFFF00FFF, 0x000001D1)
  | .regWriteUnused1E _ _ => (0xFFF00FFF, 0x000001E1)
  | .regWriteUnused1F _ _ => (0xFFF00FFF, 0x000001F1)
  | .regWriteFrom20 _ _ _ => (0xFFF00E0F, 0x00000201)
  | .regWriteFrom40 _ _ _ => (0xFFF00C0F, 0x00000401)
  | .regWriteFrom80 _ _ _ => (0xFFF0080F, 0x00000801)
  | .regReadFreqLo0 => (0xFFFFFFFF, 0x00000002)
  | .regReadFreqHi0 => (0xFFFFFFFF, 0x00000012)
  | .regReadPwLo0 => (0xFFFFFFFF, 0x00000022)
  | .regReadPwHi0 => (0xFFFFFFFF, 0x00000032)
  | .regReadCtrl0 => (0xFFFFFFFF, 0x00000042)
  | .regReadAd0 => (0xFFFFFFFF, 0x00000052)
  | .regReadSr0 => (0xFFFFFFFF, 0x00000062)
  | .regReadFreqLo1 => (0xFFFFFFFF, 0x00000072)
  | .regReadFreqHi1 => (0xFFFFFFFF, 0x00000082)
  | .regReadPwLo1 => (0xFFFFFFFF, 0x00000092)
  | .regReadPwHi1 => (0xFFFFFFFF, 0x000000A2)
  | .regReadCtrl1 => (0xFFFFFFFF, 0x000000B2)
  | .regReadAd1 => (0xFFFFFFFF, 0x000000C2)
  | .regReadSr1 => (0xFFFFFFFF, 0x000000D2)
  | .regReadFreqLo2 => (0xFFFFFFFF, 0x000000E2)
  | .regReadFreqHi2 => (0xFFFFFFFF, 0x000000F2)
  | .regReadPwLo2 => (0xFFFFFFFF, 0x00000102)
  | .regReadPwHi2 => (0xFFFFFFFF, 0x00000112)
  | .regReadCtrl2 => (0xFFFFFFFF, 0x00000122)
  | .regReadAd2 => (0xFFFFFFFF, 0x00000132)
  | .regReadSr2 => (0xFFFFFFFF, 0x00000142)
  | .regReadFcLo => (0xFFFFFFFF, 0x00000152)
  | .regReadFcHi => (0xFFFFFFFF, 0x00000162)
  | .regReadResFilt => (0xFFFFFFFF, 0x00000172)
  | .regReadModeVol => (0xFFFFFFFF, 0x00000182)
  | .regReadPotx => (0xFFFFFFFF, 0x00000192)
  | .regReadPoty => (0xFFFFFFFF, 0x000001A2)
  | .regReadOsc3 => (0xFFFFFFFF, 0x000001B2)
  | .regReadEnv3 => (0xFFFFFFFF, 0x000001C2)
  | .regReadUnused1D => (0xFFFFFFFF, 0x000001D2)
  | .regReadUnused1E => (0xFFFFFFFF, 0x000001E2)
  | .regReadUnused1F => (0xFFFFFFFF, 0x000001F2)
  | .regReadFrom20 _ => (0xFFFFFE0F, 0x00000202)
  | .regReadFrom40 _ => (0xFFFFFC0F, 0x00000402)
  | .regReadFrom80 _ => (0xFFFFF80F, 0x00000802)
  | .render _ => (0xFFFFFFFF, 0x00000003)
  | .setOutputRate _ => (0xFFFFFFFF, 0x00000004)
  | .setClockRate _ => (0xFFFFFFFF, 0x00000005)
  | .reset => (0xFFFFFFFF, 0x00000006)
  | .saveState => (0xFFFFFFFF, 0x00000007)
  | .loadState _ => (0xFFFFFFFF, 0x00000008)
  | .qDequeue => (0xFFFFFFFF, 0x0000000A)
  | .qFront => (0xFFFFFFFF, 0x0000000B)
  | .qSize => (0xFFFFFFFF, 0x0000000C)
  | .qTotal => (0xFFFFFFFF, 0x0000000D)
  | .qEnqueue _ _ _ => (0xFFF0000F, 0x00000009)
  | .reserved0 _ => (0x0000000F, 0x00000000)
  | .reservedE _ => (0x0000000F, 0x0000000E)
  | .reservedF _ => (0x0000000F, 0x0000000F)

/-- The word of the instruction matches its row. -/
def EncodesItsRow.Statement (i : Instr) : Prop :=
  WellFormed i = true → (encode i).cw &&& (rowOf i).1 = (rowOf i).2

/-- A mask over the four fields of a command word, field by field. -/
theorem commandWord_and (op : BitVec 4) (addr data am dm : Byte) :
    commandWord op addr data &&& ((0xFFF#12 ++ dm) ++ am ++ 0xF#4 : BitVec (12 + 8 + 8 + 4)) =
      commandWord op (addr &&& am) (data &&& dm) := by
  have ff (x : BitVec 4) : x &&& 0xF#4 = x := by revert x; decide
  show (((0#12 ++ data) ++ addr) ++ op : BitVec (12 + 8 + 8 + 4)) &&& ((0xFFF#12 ++ dm) ++ am ++ 0xF#4) = _
  rw [BitVec.and_append, BitVec.and_append, BitVec.and_append, ff]
  rfl

/-- A row of one address whose data byte is free. -/
theorem write_row (addr data : Byte) (op : BitVec 4) :
    commandWord op addr data &&& 0xFFF00FFF#32 = commandWord op addr 0 := by
  have ha : addr &&& 0xFF#8 = addr := by revert addr; decide
  have h := commandWord_and op addr data 0xFF#8 0x00#8
  rw [ha, show data &&& 0x00#8 = 0 by simp] at h
  exact h

/-- A row whose address and data byte are free. -/
theorem free_row (addr data : Byte) (op : BitVec 4) :
    commandWord op addr data &&& 0xFFF0000F#32 = commandWord op 0 0 := by
  have h := commandWord_and op addr data 0x00#8 0x00#8
  simp only [show addr &&& 0x00#8 = 0 by simp, show data &&& 0x00#8 = 0 by simp] at h
  exact h

/-- A row of a class of addresses whose data byte is free. -/
theorem write_class_row (addr data am am' : Byte) (op : BitVec 4) (h : addr &&& am = am') :
    commandWord op addr data &&& ((0xFFF#12 ++ 0x00#8) ++ am ++ 0xF#4 : BitVec (12 + 8 + 8 + 4)) =
      commandWord op am' 0 := by
  rw [commandWord_and, h]
  simp

/-- A row of a class of addresses with no data byte. -/
theorem read_class_row (addr am am' : Byte) (op : BitVec 4) (h : addr &&& am = am') :
    commandWord op addr 0 &&& ((0xFFF#12 ++ 0xFF#8) ++ am ++ 0xF#4 : BitVec (12 + 8 + 8 + 4)) =
      commandWord op am' 0 := by
  rw [commandWord_and, h]
  rfl

/-- A row that fixes the whole word. -/
theorem fixed_row (op : BitVec 4) : commandWord op 0 0 &&& 0xFFFFFFFF#32 = commandWord op 0 0 := by
  revert op
  decide

/-- A row that fixes OP alone. -/
theorem reserved_row (rest : BitVec 28) (op : BitVec 4) :
    (rest ++ op : BitVec (28 + 4)) &&& 0x0000000F#32 = 0#28 ++ op := by
  have ff (x : BitVec 4) : x &&& 0xF#4 = x := by revert x; decide
  show (rest ++ op : BitVec (28 + 4)) &&& (0#28 ++ 0xF#4) = _
  rw [BitVec.and_append, ff]
  simp

/-- The address classes by their top bits. -/
theorem class20 (addr : Byte) (h : addrIn 0x20 0x3F addr = true) : addr &&& 0xE0#8 = 0x20#8 := by revert addr; decide
theorem class40 (addr : Byte) (h : addrIn 0x40 0x7F addr = true) : addr &&& 0xC0#8 = 0x40#8 := by revert addr; decide
theorem class80 (addr : Byte) (h : addrIn 0x80 0xFF addr = true) : addr &&& 0x80#8 = 0x80#8 := by revert addr; decide

theorem EncodesItsRow.regWriteFreqLo0 (data : Byte) (cycle : Arg) : EncodesItsRow.Statement (.regWriteFreqLo0 data cycle) :=
  fun _ => write_row _ data _
theorem EncodesItsRow.regWriteFreqHi0 (data : Byte) (cycle : Arg) : EncodesItsRow.Statement (.regWriteFreqHi0 data cycle) :=
  fun _ => write_row _ data _
theorem EncodesItsRow.regWritePwLo0 (data : Byte) (cycle : Arg) : EncodesItsRow.Statement (.regWritePwLo0 data cycle) :=
  fun _ => write_row _ data _
theorem EncodesItsRow.regWritePwHi0 (data : Byte) (cycle : Arg) : EncodesItsRow.Statement (.regWritePwHi0 data cycle) :=
  fun _ => write_row _ data _
theorem EncodesItsRow.regWriteCtrl0 (data : Byte) (cycle : Arg) : EncodesItsRow.Statement (.regWriteCtrl0 data cycle) :=
  fun _ => write_row _ data _
theorem EncodesItsRow.regWriteAd0 (data : Byte) (cycle : Arg) : EncodesItsRow.Statement (.regWriteAd0 data cycle) :=
  fun _ => write_row _ data _
theorem EncodesItsRow.regWriteSr0 (data : Byte) (cycle : Arg) : EncodesItsRow.Statement (.regWriteSr0 data cycle) :=
  fun _ => write_row _ data _
theorem EncodesItsRow.regWriteFreqLo1 (data : Byte) (cycle : Arg) : EncodesItsRow.Statement (.regWriteFreqLo1 data cycle) :=
  fun _ => write_row _ data _
theorem EncodesItsRow.regWriteFreqHi1 (data : Byte) (cycle : Arg) : EncodesItsRow.Statement (.regWriteFreqHi1 data cycle) :=
  fun _ => write_row _ data _
theorem EncodesItsRow.regWritePwLo1 (data : Byte) (cycle : Arg) : EncodesItsRow.Statement (.regWritePwLo1 data cycle) :=
  fun _ => write_row _ data _
theorem EncodesItsRow.regWritePwHi1 (data : Byte) (cycle : Arg) : EncodesItsRow.Statement (.regWritePwHi1 data cycle) :=
  fun _ => write_row _ data _
theorem EncodesItsRow.regWriteCtrl1 (data : Byte) (cycle : Arg) : EncodesItsRow.Statement (.regWriteCtrl1 data cycle) :=
  fun _ => write_row _ data _
theorem EncodesItsRow.regWriteAd1 (data : Byte) (cycle : Arg) : EncodesItsRow.Statement (.regWriteAd1 data cycle) :=
  fun _ => write_row _ data _
theorem EncodesItsRow.regWriteSr1 (data : Byte) (cycle : Arg) : EncodesItsRow.Statement (.regWriteSr1 data cycle) :=
  fun _ => write_row _ data _
theorem EncodesItsRow.regWriteFreqLo2 (data : Byte) (cycle : Arg) : EncodesItsRow.Statement (.regWriteFreqLo2 data cycle) :=
  fun _ => write_row _ data _
theorem EncodesItsRow.regWriteFreqHi2 (data : Byte) (cycle : Arg) : EncodesItsRow.Statement (.regWriteFreqHi2 data cycle) :=
  fun _ => write_row _ data _
theorem EncodesItsRow.regWritePwLo2 (data : Byte) (cycle : Arg) : EncodesItsRow.Statement (.regWritePwLo2 data cycle) :=
  fun _ => write_row _ data _
theorem EncodesItsRow.regWritePwHi2 (data : Byte) (cycle : Arg) : EncodesItsRow.Statement (.regWritePwHi2 data cycle) :=
  fun _ => write_row _ data _
theorem EncodesItsRow.regWriteCtrl2 (data : Byte) (cycle : Arg) : EncodesItsRow.Statement (.regWriteCtrl2 data cycle) :=
  fun _ => write_row _ data _
theorem EncodesItsRow.regWriteAd2 (data : Byte) (cycle : Arg) : EncodesItsRow.Statement (.regWriteAd2 data cycle) :=
  fun _ => write_row _ data _
theorem EncodesItsRow.regWriteSr2 (data : Byte) (cycle : Arg) : EncodesItsRow.Statement (.regWriteSr2 data cycle) :=
  fun _ => write_row _ data _
theorem EncodesItsRow.regWriteFcLo (data : Byte) (cycle : Arg) : EncodesItsRow.Statement (.regWriteFcLo data cycle) :=
  fun _ => write_row _ data _
theorem EncodesItsRow.regWriteFcHi (data : Byte) (cycle : Arg) : EncodesItsRow.Statement (.regWriteFcHi data cycle) :=
  fun _ => write_row _ data _
theorem EncodesItsRow.regWriteResFilt (data : Byte) (cycle : Arg) : EncodesItsRow.Statement (.regWriteResFilt data cycle) :=
  fun _ => write_row _ data _
theorem EncodesItsRow.regWriteModeVol (data : Byte) (cycle : Arg) : EncodesItsRow.Statement (.regWriteModeVol data cycle) :=
  fun _ => write_row _ data _
theorem EncodesItsRow.regWritePotx (data : Byte) (cycle : Arg) : EncodesItsRow.Statement (.regWritePotx data cycle) :=
  fun _ => write_row _ data _
theorem EncodesItsRow.regWritePoty (data : Byte) (cycle : Arg) : EncodesItsRow.Statement (.regWritePoty data cycle) :=
  fun _ => write_row _ data _
theorem EncodesItsRow.regWriteOsc3 (data : Byte) (cycle : Arg) : EncodesItsRow.Statement (.regWriteOsc3 data cycle) :=
  fun _ => write_row _ data _
theorem EncodesItsRow.regWriteEnv3 (data : Byte) (cycle : Arg) : EncodesItsRow.Statement (.regWriteEnv3 data cycle) :=
  fun _ => write_row _ data _
theorem EncodesItsRow.regWriteUnused1D (data : Byte) (cycle : Arg) : EncodesItsRow.Statement (.regWriteUnused1D data cycle) :=
  fun _ => write_row _ data _
theorem EncodesItsRow.regWriteUnused1E (data : Byte) (cycle : Arg) : EncodesItsRow.Statement (.regWriteUnused1E data cycle) :=
  fun _ => write_row _ data _
theorem EncodesItsRow.regWriteUnused1F (data : Byte) (cycle : Arg) : EncodesItsRow.Statement (.regWriteUnused1F data cycle) :=
  fun _ => write_row _ data _
theorem EncodesItsRow.regWriteFrom20 (addr : Byte) (data : Byte) (cycle : Arg) : EncodesItsRow.Statement (.regWriteFrom20 addr data cycle) :=
  fun h => write_class_row addr data _ _ _ (class20 addr h)
theorem EncodesItsRow.regWriteFrom40 (addr : Byte) (data : Byte) (cycle : Arg) : EncodesItsRow.Statement (.regWriteFrom40 addr data cycle) :=
  fun h => write_class_row addr data _ _ _ (class40 addr h)
theorem EncodesItsRow.regWriteFrom80 (addr : Byte) (data : Byte) (cycle : Arg) : EncodesItsRow.Statement (.regWriteFrom80 addr data cycle) :=
  fun h => write_class_row addr data _ _ _ (class80 addr h)
theorem EncodesItsRow.regReadFreqLo0 : EncodesItsRow.Statement .regReadFreqLo0 :=
  fun _ => rfl
theorem EncodesItsRow.regReadFreqHi0 : EncodesItsRow.Statement .regReadFreqHi0 :=
  fun _ => rfl
theorem EncodesItsRow.regReadPwLo0 : EncodesItsRow.Statement .regReadPwLo0 :=
  fun _ => rfl
theorem EncodesItsRow.regReadPwHi0 : EncodesItsRow.Statement .regReadPwHi0 :=
  fun _ => rfl
theorem EncodesItsRow.regReadCtrl0 : EncodesItsRow.Statement .regReadCtrl0 :=
  fun _ => rfl
theorem EncodesItsRow.regReadAd0 : EncodesItsRow.Statement .regReadAd0 :=
  fun _ => rfl
theorem EncodesItsRow.regReadSr0 : EncodesItsRow.Statement .regReadSr0 :=
  fun _ => rfl
theorem EncodesItsRow.regReadFreqLo1 : EncodesItsRow.Statement .regReadFreqLo1 :=
  fun _ => rfl
theorem EncodesItsRow.regReadFreqHi1 : EncodesItsRow.Statement .regReadFreqHi1 :=
  fun _ => rfl
theorem EncodesItsRow.regReadPwLo1 : EncodesItsRow.Statement .regReadPwLo1 :=
  fun _ => rfl
theorem EncodesItsRow.regReadPwHi1 : EncodesItsRow.Statement .regReadPwHi1 :=
  fun _ => rfl
theorem EncodesItsRow.regReadCtrl1 : EncodesItsRow.Statement .regReadCtrl1 :=
  fun _ => rfl
theorem EncodesItsRow.regReadAd1 : EncodesItsRow.Statement .regReadAd1 :=
  fun _ => rfl
theorem EncodesItsRow.regReadSr1 : EncodesItsRow.Statement .regReadSr1 :=
  fun _ => rfl
theorem EncodesItsRow.regReadFreqLo2 : EncodesItsRow.Statement .regReadFreqLo2 :=
  fun _ => rfl
theorem EncodesItsRow.regReadFreqHi2 : EncodesItsRow.Statement .regReadFreqHi2 :=
  fun _ => rfl
theorem EncodesItsRow.regReadPwLo2 : EncodesItsRow.Statement .regReadPwLo2 :=
  fun _ => rfl
theorem EncodesItsRow.regReadPwHi2 : EncodesItsRow.Statement .regReadPwHi2 :=
  fun _ => rfl
theorem EncodesItsRow.regReadCtrl2 : EncodesItsRow.Statement .regReadCtrl2 :=
  fun _ => rfl
theorem EncodesItsRow.regReadAd2 : EncodesItsRow.Statement .regReadAd2 :=
  fun _ => rfl
theorem EncodesItsRow.regReadSr2 : EncodesItsRow.Statement .regReadSr2 :=
  fun _ => rfl
theorem EncodesItsRow.regReadFcLo : EncodesItsRow.Statement .regReadFcLo :=
  fun _ => rfl
theorem EncodesItsRow.regReadFcHi : EncodesItsRow.Statement .regReadFcHi :=
  fun _ => rfl
theorem EncodesItsRow.regReadResFilt : EncodesItsRow.Statement .regReadResFilt :=
  fun _ => rfl
theorem EncodesItsRow.regReadModeVol : EncodesItsRow.Statement .regReadModeVol :=
  fun _ => rfl
theorem EncodesItsRow.regReadPotx : EncodesItsRow.Statement .regReadPotx :=
  fun _ => rfl
theorem EncodesItsRow.regReadPoty : EncodesItsRow.Statement .regReadPoty :=
  fun _ => rfl
theorem EncodesItsRow.regReadOsc3 : EncodesItsRow.Statement .regReadOsc3 :=
  fun _ => rfl
theorem EncodesItsRow.regReadEnv3 : EncodesItsRow.Statement .regReadEnv3 :=
  fun _ => rfl
theorem EncodesItsRow.regReadUnused1D : EncodesItsRow.Statement .regReadUnused1D :=
  fun _ => rfl
theorem EncodesItsRow.regReadUnused1E : EncodesItsRow.Statement .regReadUnused1E :=
  fun _ => rfl
theorem EncodesItsRow.regReadUnused1F : EncodesItsRow.Statement .regReadUnused1F :=
  fun _ => rfl
theorem EncodesItsRow.regReadFrom20 (addr : Byte) : EncodesItsRow.Statement (.regReadFrom20 addr) :=
  fun h => read_class_row addr _ _ _ (class20 addr h)
theorem EncodesItsRow.regReadFrom40 (addr : Byte) : EncodesItsRow.Statement (.regReadFrom40 addr) :=
  fun h => read_class_row addr _ _ _ (class40 addr h)
theorem EncodesItsRow.regReadFrom80 (addr : Byte) : EncodesItsRow.Statement (.regReadFrom80 addr) :=
  fun h => read_class_row addr _ _ _ (class80 addr h)
theorem EncodesItsRow.render (count : Arg) : EncodesItsRow.Statement (.render count) :=
  fun _ => fixed_row _
theorem EncodesItsRow.setOutputRate (rate : Arg) : EncodesItsRow.Statement (.setOutputRate rate) :=
  fun _ => fixed_row _
theorem EncodesItsRow.setClockRate (rate : Arg) : EncodesItsRow.Statement (.setClockRate rate) :=
  fun _ => fixed_row _
theorem EncodesItsRow.reset : EncodesItsRow.Statement .reset :=
  fun _ => rfl
theorem EncodesItsRow.saveState : EncodesItsRow.Statement .saveState :=
  fun _ => rfl
theorem EncodesItsRow.loadState (blob : Option Machine.Blob) : EncodesItsRow.Statement (.loadState blob) :=
  fun _ => fixed_row _
theorem EncodesItsRow.qDequeue : EncodesItsRow.Statement .qDequeue :=
  fun _ => rfl
theorem EncodesItsRow.qFront : EncodesItsRow.Statement .qFront :=
  fun _ => rfl
theorem EncodesItsRow.qSize : EncodesItsRow.Statement .qSize :=
  fun _ => rfl
theorem EncodesItsRow.qTotal : EncodesItsRow.Statement .qTotal :=
  fun _ => rfl
theorem EncodesItsRow.qEnqueue (addr : Byte) (data : Byte) (delta : Arg) : EncodesItsRow.Statement (.qEnqueue addr data delta) :=
  fun _ => free_row addr data _
theorem EncodesItsRow.reserved0 (rest : BitVec 28) : EncodesItsRow.Statement (.reserved0 rest) :=
  fun _ => reserved_row rest _
theorem EncodesItsRow.reservedE (rest : BitVec 28) : EncodesItsRow.Statement (.reservedE rest) :=
  fun _ => reserved_row rest _
theorem EncodesItsRow.reservedF (rest : BitVec 28) : EncodesItsRow.Statement (.reservedF rest) :=
  fun _ => reserved_row rest _

end Sys2Proof.Laws
end

