-- ==== Sys2Proof/Tests/Slice0.lean ====
section
/-! SUPPORT. Tests of single steps, with expected results from spec/ alone (95_test_vectors.md by the name of the vector), and
for every statement with hypotheses a concrete state and operands that meet them. -/

namespace Sys2Proof.Tests
open Sys2Proof Sys2Proof.Machine

/-! ## Helpers -/

/-- The chip of V-RST-1: powered on with TC and QCAP = 4, inert. -/
def inertTc : Chip := Chip.initial .tc 4

/-- The active TC chip of 95_test_vectors.md. -/
def activeTc : Chip := { inertTc with sampleRate := 44100, clockRate := 882000 }

/-- A chip with writes applied to it, in order. -/
def applied (writes : List (Byte × Byte)) (c : Chip) : Chip := writes.foldl (fun c w => applyWrite w.1 w.2 c) c

/-- A chip with one voice replaced. -/
def withVoice (v : VoiceId) (x : Voice) (c : Chip) : Chip := updateVoice c v (fun _ => x)

/-- A machine around a chip. -/
def machine (c : Chip) : State := { State.powered .tc 4 with chip := c }

/-- A voice with the given accumulator. -/
def atPhase (acc : Phase) : Voice := { Voice.initial with acc := acc }

/-- The chip of program P1 after its eighth command: a triangle on voice 0, in Attack. -/
def trianglePlaying : Chip :=
  applied [(0x18, 0x0F), (0x00, 0x00), (0x01, 0x10), (0x05, 0x00), (0x06, 0xF0), (0x04, 0x11)] activeTc

/-- A full queue of TC. -/
def fullQueue : List Entry := [⟨0, 1, 0⟩, ⟨1, 2, 10⟩, ⟨2, 3, 20⟩, ⟨3, 4, 30⟩]

/-- The state one command leaves. -/
def after (p : Command) (s : State) : Option State :=
  match step { s with pending := [p] } with
  | .next t => some t
  | _ => none

/-- What one command without a blob returns, on a chip. -/
def returned (cw : CommandWord) (arg : Arg) (c : Chip) : Option Result := (after ⟨cw, arg, none⟩ (machine c)).map State.result

/-- The chip one command without a blob leaves. -/
def chipAfter (cw : CommandWord) (arg : Arg) (c : Chip) : Option Chip := (after ⟨cw, arg, none⟩ (machine c)).map State.chip

/-- What the decoder gives for a word and an ARG. -/
def decoded (cw : CommandWord) (arg : Arg) : Option Instr := (decode ⟨cw, arg, none⟩).toOption

/-! ## Decoding: a word written from the encoding of R45, `OP | ADDR << 4 | DATA << 12`, for every constructor -/

/-- One word of each family bit by bit: RSV, DATA, ADDR, OP. -/
theorem test_decode_bits :
    [decoded 0b00000000000000010001000001000001 (-2),
      decoded 0b00000000000000000000000110110010 0,
      decoded 0b00000000000000000000000000000011 4410,
      decoded 0b00000000000000000000000000000100 44100,
      decoded 0b00000000000000000000000000000110 0,
      decoded 0b00000000000010101010001111111001 (-1),
      decoded 0b00000000000000000000000000001101 0,
      decoded 0b00000000000001111111100000011110 5] =
    [some (.regWriteCtrl0 0x11 (-2)),
      some (.regReadOsc3),
      some (.render 4410),
      some (.setOutputRate 44100),
      some (.reset),
      some (.qEnqueue 0x3F 0xAA (-1)),
      some (.qTotal),
      some (.reservedE 0x0007F81)] := by decide

theorem test_decode_writes_voice0 :
    [decoded 0x00080001 9,
      decoded 0x00087011 9,
      decoded 0x0008E021 9,
      decoded 0x00095031 9,
      decoded 0x0009C041 9,
      decoded 0x000A3051 9,
      decoded 0x000AA061 9] =
    [some (.regWriteFreqLo0 0x80 9),
      some (.regWriteFreqHi0 0x87 9),
      some (.regWritePwLo0 0x8E 9),
      some (.regWritePwHi0 0x95 9),
      some (.regWriteCtrl0 0x9C 9),
      some (.regWriteAd0 0xA3 9),
      some (.regWriteSr0 0xAA 9)] := by decide

theorem test_decode_reads_voice0 :
    [decoded 0x00000002 0,
      decoded 0x00000012 0,
      decoded 0x00000022 0,
      decoded 0x00000032 0,
      decoded 0x00000042 0,
      decoded 0x00000052 0,
      decoded 0x00000062 0] =
    [some (.regReadFreqLo0),
      some (.regReadFreqHi0),
      some (.regReadPwLo0),
      some (.regReadPwHi0),
      some (.regReadCtrl0),
      some (.regReadAd0),
      some (.regReadSr0)] := by decide

theorem test_decode_writes_voice1 :
    [decoded 0x000B1071 9,
      decoded 0x000B8081 9,
      decoded 0x000BF091 9,
      decoded 0x000C60A1 9,
      decoded 0x000CD0B1 9,
      decoded 0x000D40C1 9,
      decoded 0x000DB0D1 9] =
    [some (.regWriteFreqLo1 0xB1 9),
      some (.regWriteFreqHi1 0xB8 9),
      some (.regWritePwLo1 0xBF 9),
      some (.regWritePwHi1 0xC6 9),
      some (.regWriteCtrl1 0xCD 9),
      some (.regWriteAd1 0xD4 9),
      some (.regWriteSr1 0xDB 9)] := by decide

theorem test_decode_reads_voice1 :
    [decoded 0x00000072 0,
      decoded 0x00000082 0,
      decoded 0x00000092 0,
      decoded 0x000000A2 0,
      decoded 0x000000B2 0,
      decoded 0x000000C2 0,
      decoded 0x000000D2 0] =
    [some (.regReadFreqLo1),
      some (.regReadFreqHi1),
      some (.regReadPwLo1),
      some (.regReadPwHi1),
      some (.regReadCtrl1),
      some (.regReadAd1),
      some (.regReadSr1)] := by decide

theorem test_decode_writes_voice2 :
    [decoded 0x000E20E1 9,
      decoded 0x000E90F1 9,
      decoded 0x000F0101 9,
      decoded 0x000F7111 9,
      decoded 0x000FE121 9,
      decoded 0x00005131 9,
      decoded 0x0000C141 9] =
    [some (.regWriteFreqLo2 0xE2 9),
      some (.regWriteFreqHi2 0xE9 9),
      some (.regWritePwLo2 0xF0 9),
      some (.regWritePwHi2 0xF7 9),
      some (.regWriteCtrl2 0xFE 9),
      some (.regWriteAd2 0x05 9),
      some (.regWriteSr2 0x0C 9)] := by decide

theorem test_decode_reads_voice2 :
    [decoded 0x000000E2 0,
      decoded 0x000000F2 0,
      decoded 0x00000102 0,
      decoded 0x00000112 0,
      decoded 0x00000122 0,
      decoded 0x00000132 0,
      decoded 0x00000142 0] =
    [some (.regReadFreqLo2),
      some (.regReadFreqHi2),
      some (.regReadPwLo2),
      some (.regReadPwHi2),
      some (.regReadCtrl2),
      some (.regReadAd2),
      some (.regReadSr2)] := by decide

theorem test_decode_writes_filter :
    [decoded 0x00013151 9,
      decoded 0x0001A161 9,
      decoded 0x00021171 9,
      decoded 0x00028181 9] =
    [some (.regWriteFcLo 0x13 9),
      some (.regWriteFcHi 0x1A 9),
      some (.regWriteResFilt 0x21 9),
      some (.regWriteModeVol 0x28 9)] := by decide

theorem test_decode_reads_filter :
    [decoded 0x00000152 0,
      decoded 0x00000162 0,
      decoded 0x00000172 0,
      decoded 0x00000182 0] =
    [some (.regReadFcLo),
      some (.regReadFcHi),
      some (.regReadResFilt),
      some (.regReadModeVol)] := by decide

theorem test_decode_writes_read_only :
    [decoded 0x0002F191 9,
      decoded 0x000361A1 9,
      decoded 0x0003D1B1 9,
      decoded 0x000441C1 9,
      decoded 0x0004B1D1 9,
      decoded 0x000521E1 9,
      decoded 0x000591F1 9] =
    [some (.regWritePotx 0x2F 9),
      some (.regWritePoty 0x36 9),
      some (.regWriteOsc3 0x3D 9),
      some (.regWriteEnv3 0x44 9),
      some (.regWriteUnused1D 0x4B 9),
      some (.regWriteUnused1E 0x52 9),
      some (.regWriteUnused1F 0x59 9)] := by decide

theorem test_decode_reads_read_only :
    [decoded 0x00000192 0,
      decoded 0x000001A2 0,
      decoded 0x000001B2 0,
      decoded 0x000001C2 0,
      decoded 0x000001D2 0,
      decoded 0x000001E2 0,
      decoded 0x000001F2 0] =
    [some (.regReadPotx),
      some (.regReadPoty),
      some (.regReadOsc3),
      some (.regReadEnv3),
      some (.regReadUnused1D),
      some (.regReadUnused1E),
      some (.regReadUnused1F)] := by decide

theorem test_decode_writes_outside :
    [decoded 0x00099201 1,
      decoded 0x000013F1 1,
      decoded 0x00001401 1,
      decoded 0x000807F1 1,
      decoded 0x00000801 1,
      decoded 0x000FFFF1 1] =
    [some (.regWriteFrom20 0x20 0x99 1),
      some (.regWriteFrom20 0x3F 0x01 1),
      some (.regWriteFrom40 0x40 0x01 1),
      some (.regWriteFrom40 0x7F 0x80 1),
      some (.regWriteFrom80 0x80 0x00 1),
      some (.regWriteFrom80 0xFF 0xFF 1)] := by decide

theorem test_decode_reads_outside :
    [decoded 0x00000202 0,
      decoded 0x000003F2 0,
      decoded 0x00000402 0,
      decoded 0x000007F2 0,
      decoded 0x00000802 0,
      decoded 0x00000FF2 0] =
    [some (.regReadFrom20 0x20),
      some (.regReadFrom20 0x3F),
      some (.regReadFrom40 0x40),
      some (.regReadFrom40 0x7F),
      some (.regReadFrom80 0x80),
      some (.regReadFrom80 0xFF)] := by decide

theorem test_decode_system :
    [decoded 0x00000003 (-5),
      decoded 0x00000004 1,
      decoded 0x00000005 882000,
      decoded 0x00000006 0,
      decoded 0x00000007 0,
      decoded 0x00000008 0] =
    [some (.render (-5)),
      some (.setOutputRate 1),
      some (.setClockRate 882000),
      some (.reset),
      some (.saveState),
      some (.loadState none)] := by decide

/-- V-ENC-13 to V-ENC-17. -/
theorem test_decode_queue :
    [decoded 0x00011049 7,
      decoded 0x0000000A 0,
      decoded 0x0000000B 0,
      decoded 0x0000000C 0,
      decoded 0x0000000D 0] =
    [some (.qEnqueue 0x04 0x11 7),
      some (.qDequeue),
      some (.qFront),
      some (.qSize),
      some (.qTotal)] := by decide

/-- V-ENC-18, V-ENC-19, and words with other bits set. -/
theorem test_decode_reserved_op :
    [decoded 0x00000000 0,
      decoded 0x0000000E 5,
      decoded 0x0000000F 0,
      decoded 0xFFFFFFF0 0,
      decoded 0x8000001F 0] =
    [some (.reserved0 0),
      some (.reservedE 0),
      some (.reservedF 0),
      some (.reserved0 0xFFFFFFF),
      some (.reservedF 0x8000001)] := by decide

/-- The blob of a LOAD_STATE comes with the command (R46). -/
theorem test_decode_blob :
    decode ⟨0x00000008, 0, some (snapshot inertTc)⟩ = .ok (.loadState (some (snapshot inertTc))) := rfl

/-- V-ENC-20 to V-ENC-24: reserved words of a defined OP. -/
theorem test_decode_rejects :
    decode ⟨0x00100003, 10, none⟩ = .error .reservedBits ∧ decode ⟨0x00000013, 0, none⟩ = .error .unusedAddr ∧
    decode ⟨0x000011C2, 0, none⟩ = .error .unusedData ∧ decode ⟨0x00001006, 0, none⟩ = .error .unusedData ∧
    decode ⟨0x80011041, 0, none⟩ = .error .reservedBits := ⟨rfl, rfl, rfl, rfl, rfl⟩

/-- The host's numbering: CW is bits 31:0, the first ARG bit is bit 32. -/
theorem test_table_word : decodeTableWord 96 (0x00000003 + 3 * 2 ^ 32) = some (.render 3) ∧
    decodeTableWord 32 0x00011041 = some (.regWriteCtrl0 0x11 0) := by decide

/-! ## WellFormed refuses an address outside the class of its row -/

theorem test_wellFormed_regWriteFrom20 :
    WellFormed (.regWriteFrom20 0x1F 0x11 0) = false ∧
    WellFormed (.regWriteFrom20 0x40 0x11 0) = false := by decide

theorem test_wellFormed_regWriteFrom40 :
    WellFormed (.regWriteFrom40 0x3F 0x11 0) = false ∧
    WellFormed (.regWriteFrom40 0x80 0x11 0) = false := by decide

theorem test_wellFormed_regWriteFrom80 :
    WellFormed (.regWriteFrom80 0x7F 0x11 0) = false := by decide

theorem test_wellFormed_regReadFrom20 :
    WellFormed (.regReadFrom20 0x1F) = false ∧
    WellFormed (.regReadFrom20 0x40) = false := by decide

theorem test_wellFormed_regReadFrom40 :
    WellFormed (.regReadFrom40 0x3F) = false ∧
    WellFormed (.regReadFrom40 0x80) = false := by decide

theorem test_wellFormed_regReadFrom80 :
    WellFormed (.regReadFrom80 0x7F) = false := by decide
/-! ## One step each, with the outcome of a vector of the spec -/

/-! ### Queue commands -/

/-- V-Q-1; the latch, the baseline and the registers stay. -/
theorem test_qEnqueue_appends :
    chipAfter 0x00011049 0 activeTc = some { activeTc with queue := [⟨0x04, 0x11, 0⟩] } := by decide

/-- V-Q-3: the incoming write is dropped. -/
theorem test_qEnqueue_full :
    (after ⟨0x00005049, 40, none⟩ (machine { activeTc with queue := fullQueue })).map
      (fun t => (t.chip.queue, t.chip.overflowCount, t.diag, t.fault)) =
    some (fullQueue, 1, [.queueOverflow 0x04 0x05], []) := by decide

/-- V-Q-9. -/
theorem test_qEnqueue_negative :
    after ⟨0x00006059, -1, none⟩ (machine activeTc) =
    some { machine activeTc with
      fault := [⟨.negativeDelta, 0x00006059, -1⟩], result := .faulted ⟨.negativeDelta, 0x00006059, -1⟩ } := by decide

/-- V-Q-6: the front entry is discarded, not applied. -/
theorem test_qDequeue :
    chipAfter 0x0000000A 0 { activeTc with queue := fullQueue } =
    some { activeTc with queue := [⟨1, 2, 10⟩, ⟨2, 3, 20⟩, ⟨3, 4, 30⟩] } := by decide

/-- V-Q-7 and V-EXC-9. -/
theorem test_qDequeue_empty : after ⟨0x0000000A, 0, none⟩ (machine activeTc) = some (machine activeTc) := by decide

/-- V-Q-5. -/
theorem test_qFront :
    returned 0x0000000B 0 { activeTc with queue := fullQueue } = some (.entry ⟨0x00, 0x01, 0⟩) := by decide

/-- V-Q-8. -/
theorem test_qFront_empty :
    after ⟨0x0000000B, 0, none⟩ (machine activeTc) =
    some { machine activeTc with
      fault := [⟨.frontEmpty, 0x0000000B, 0⟩], result := .faulted ⟨.frontEmpty, 0x0000000B, 0⟩ } := by decide

/-- V-Q-2. -/
theorem test_qSize : returned 0x0000000C 0 { activeTc with queue := fullQueue } = some (.value 4 4) := by decide

/-- V-Q-4 and V-Q-10. -/
theorem test_qTotal : returned 0x0000000D 0 { activeTc with queue := fullQueue } = some (.value 60 60) ∧
    returned 0x0000000D 0 activeTc = some (.value 0 0) := by decide

/-- The largest sum that 64 bits hold, and one more: the sum is exact in both (R64). -/
theorem test_qTotal_large :
    returned 0x0000000D 0 { activeTc with queue := [⟨0, 1, 2 ^ 64 - 2⟩, ⟨0, 1, 1⟩] } =
      some (.value 18446744073709551615 0xFFFFFFFFFFFFFFFF) ∧
    ∃ word, returned 0x0000000D 0 { activeTc with queue := [⟨0, 1, 2 ^ 64 - 1⟩, ⟨0, 1, 1⟩] } =
      some (.value 18446744073709551616 word) := ⟨by decide, _, rfl⟩

/-! ### The bus -/

/-- V-BUS-1. -/
theorem test_regWrite_active :
    chipAfter 0x00011041 1020 { activeTc with lastWriteCycle := 1000 } =
    some { activeTc with latch := 0x11, lastWriteCycle := 1020, queue := [⟨0x04, 0x11, 882000⟩] } := by decide

/-- V-BUS-2: an earlier cycle counts as none elapsed, and still moves the baseline. -/
theorem test_regWrite_earlier_cycle :
    chipAfter 0x00000051 1000 { activeTc with lastWriteCycle := 1020 } =
    some { activeTc with lastWriteCycle := 1000, queue := [⟨0x05, 0x00, 0⟩] } := by decide

/-- V-BUS-4: a write to an unused address is queued. -/
theorem test_regWrite_unused :
    chipAfter 0x000771D1 10 activeTc =
    some { activeTc with latch := 0x77, lastWriteCycle := 10, queue := [⟨0x1D, 0x77, 441000⟩] } := by decide

/-- V-BUS-5: on an inert chip the write acts at once, its gate event too. -/
theorem test_regWrite_inert :
    (chipAfter 0x00011041 7 inertTc).map
      (fun c => (c.regs.get 4, (voiceAt c 0).env, c.latch, c.lastWriteCycle, c.queue)) =
    some (0x11, .attack, 0x11, 7, []) := by decide

/-- V-BUS-3 and V-EXC-8. -/
theorem test_regWrite_outside :
    after ⟨0x00099201, 500, none⟩ (machine { activeTc with lastWriteCycle := 5 }) =
      some (machine { activeTc with lastWriteCycle := 5 }) ∧
    after ⟨0x00001401, 0, none⟩ (machine activeTc) = some (machine activeTc) ∧
    after ⟨0x000FFFF1, 0, none⟩ (machine activeTc) = some (machine activeTc) := by decide

/-- V-EXC-6: the fifth write into a full queue. -/
theorem test_regWrite_full :
    (after ⟨0x00011041, 3, none⟩ (machine { activeTc with queue := fullQueue })).map
      (fun t => (t.chip, t.diag, t.fault)) =
    some ({ activeTc with queue := fullQueue, latch := 0x11, lastWriteCycle := 3, overflowCount := 1 },
      [.queueOverflow 0x04 0x11], []) := by decide

/-- V-BUS-6 and V-BUS-7: the latch, whichever register is read. -/
theorem test_regRead_latch :
    returned 0x00000042 0 { activeTc with latch := 0x0F } = some (.byte 0x0F) ∧
    returned 0x000001D2 0 { activeTc with latch := 0x0F } = some (.byte 0x0F) ∧
    returned 0x000001F2 0 { activeTc with latch := 0x0F } = some (.byte 0x0F) := by decide

/-- V-BUS-9. -/
theorem test_regRead_osc3 :
    returned 0x000001B2 0 (applied [(0x12, 0x20)] (withVoice 2 (atPhase 0x12345678) inertTc)) = some (.byte 0x12) := by
  decide

/-- V-BUS-10 and V-BUS-11. -/
theorem test_regRead_env3 :
    returned 0x000001C2 0 (withVoice 2 { Voice.initial with E := 0x7F800000 } inertTc) = some (.byte 0xFF) ∧
    returned 0x000001C2 0 inertTc = some (.byte 0x00) := by decide

/-- V-BUS-8: a read of a paddle or outside the space changes nothing of the chip. -/
theorem test_regRead_free :
    chipAfter 0x00000192 0 activeTc = some activeTc ∧ chipAfter 0x000001A2 0 activeTc = some activeTc ∧
    chipAfter 0x00000202 0 activeTc = some activeTc ∧ chipAfter 0x00000FF2 0 activeTc = some activeTc :=
  ⟨rfl, rfl, rfl, rfl⟩

/-- V-BUS-13 to V-BUS-15: only a change of LP, BP or HP zeroes the integrators. -/
theorem test_applyModeVol :
    let playing := { Voice.initial with lo := 5, ref := -7 }
    let c := applied [(0x18, 0x1F)] { inertTc with voices := ⟨playing, playing, playing⟩ }
    ((applied [(0x18, 0x2F)] c).voices = inertTc.voices) ∧
    (applied [(0x18, 0x18)] c).voices = c.voices ∧ (applied [(0x18, 0x9F)] c).voices = c.voices := by decide

/-- V-BUS-16 to V-BUS-19. -/
theorem test_derived_fields :
    cutoff (applied [(0x15, 0xFF), (0x16, 0x00)] inertTc) = 0x007 ∧
    pulseWidth (applied [(0x03, 0xF8), (0x02, 0x00)] inertTc) 0 = 0x800 ∧
    resonance (applied [(0x17, 0xF1)] inertTc) = 15 ∧ filtered (applied [(0x17, 0xF1)] inertTc) 0 = true ∧
    filtered (applied [(0x17, 0xF1)] inertTc) 1 = false ∧ filtered (applied [(0x17, 0xF1)] inertTc) 2 = false ∧
    sustainThreshold (applied [(0x06, 0xA0)] inertTc) 0 = 0x55000000 := by decide

/-! ### RENDER -/

/-- Command 9 of program P1. -/
theorem test_render_triangle :
    returned 0x00000003 8 trianglePlaying =
    some (.samples [-5670, -7365, -7245, -7065, -6945, -6765, -6645, -6465]) := by decide

/-- Command 9 of program P2: writes inside the buffer, the remainder, and the empty-queue baseline. -/
theorem test_render_replays :
    (after ⟨0x00000003, 4, none⟩ (machine { activeTc with
      lastWriteCycle := 70
      queue := [⟨0x18, 0x0F, 0⟩, ⟨0x06, 0xF0, 0⟩, ⟨0x04, 0x21, 1323000⟩, ⟨0x04, 0x20, 1764000⟩] })).map
      (fun t => (t.result, t.chip.frac, t.chip.lastWriteCycle, t.chip.queue)) =
    some (.samples [0, -5760, -7650, -5730], 441000, 0, []) := by decide

/-- V-RND-2: the backlog skips the first write. -/
theorem test_render_backlog :
    (chipAfter 0x00000003 10 { activeTc with queue := [⟨0, 0x50, 6000000⟩, ⟨4, 0x11, 5000000⟩], lastWriteCycle := 9 }).map
      (fun c => (c.regs.get 0, c.frac, c.lastWriteCycle, (voiceAt c 0).E)) =
    some (0x50, 590000, 0, 0x1FFFFFFF) := by decide +kernel

/-- V-RND-3: a write at the end of the buffer, another one left, the baseline kept. -/
theorem test_render_leaves :
    (after ⟨0x00000003, 2, none⟩ (machine { activeTc with
      queue := [⟨0x18, 0x0F, 1764000⟩, ⟨0x04, 0x11, 0⟩], lastWriteCycle := 55 })).map
      (fun t => (t.result, t.chip.regs.get 0x18, t.chip.queue, t.chip.lastWriteCycle)) =
    some (.samples [0, 0], 0x0F, [⟨0x04, 0x11, 0⟩], 55) := by decide

/-- V-RND-6 and V-RND-7: no samples and no change for n ≤ 0; silence and no change on an inert chip. -/
theorem test_render_without_work :
    after ⟨0x00000003, -5, none⟩ (machine { activeTc with queue := fullQueue }) =
      some { machine { activeTc with queue := fullQueue } with result := .samples [] } ∧
    after ⟨0x00000003, 3, none⟩ (machine { inertTc with queue := fullQueue }) =
      some { machine { inertTc with queue := fullQueue } with result := .samples [0, 0, 0] } := by decide

/-- The carry-over of section 3.4, taken as an internal step: 3 samples and an exact decrement. -/
theorem test_replay_beyond :
    replay [⟨0x04, 0x11, 3600000⟩] 3 { activeTc with queue := [⟨0x04, 0x11, 3600000⟩] } =
    ([0, 0, 0], { activeTc with queue := [⟨0x04, 0x11, 954000⟩] }) := by decide

/-- Command 10 of program P5: the low-pass filter. -/
theorem test_render_low_pass :
    (after ⟨0x00000003, 4, none⟩ (machine (applied [(0x15, 0x07), (0x16, 0xFF), (0x17, 0x01), (0x18, 0x1F), (0x01, 0x10),
      (0x06, 0xF0), (0x04, 0x21)] activeTc))).map
      (fun t => (t.result, (voiceAt t.chip 0).lo, (voiceAt t.chip 0).ref)) =
    some (.samples [-1440, -2955, -4095, -4905], -20909, -6971) := by decide

/-- R31: the low byte of a sample comes first. -/
theorem test_sampleBytes : sampleBytes (-5670) = [0xDA, 0xE9] := by decide

/-! ### The tick -/

/-- V-VOI-1 to V-VOI-5: the default frequency step at both clock rates. -/
theorem test_freqStep :
    [0x0000, 0x0001, 0x1000, 0x1CD6, 0xFFFF].map (fun f => freqStep .tc f 882000 44100) =
      [0x00000000, 0x00001400, 0x01400000, 0x0240B800, 0x13FFEC00] ∧
    [0x0000, 0x0001, 0x1000, 0x1CD6, 0xFFFF].map (fun f => freqStep .tc f 985248 44100) =
      [0x00000000, 0x00001657, 0x016575A7, 0x02843AEB, 0x16574425] := by decide

/-- V-VOI-6: the accumulator wraps and shifts the noise register once. -/
theorem test_tick_wraps :
    voiceAt (tickChip (applied [(0x00, 0x02)] (withVoice 0 (atPhase 0xFFFFF000) activeTc))) 0 =
    { Voice.initial with acc := 0x00001800, lfsr := 0x7FFFF0 } := by decide

/-- V-VOI-7: TEST holds the accumulator at 0 and the noise register at its seed. -/
theorem test_tick_under_test :
    let c := tickChip (applied [(0x00, 0xFF), (0x04, 0x88)]
      (withVoice 0 { Voice.initial with acc := 0x12345678, lfsr := 0x123456 } activeTc))
    voiceAt c 0 = Voice.initial ∧ noiseWave c 0 = 0xFE := by decide

/-- V-VOI-12, the example of 43_voice.md R93 by the wrap of program P4: the source's accumulator after pass 1 shifts the
destination's register, here by 0. -/
theorem test_tick_syncs :
    let c := tickChip (applied [(0x07, 0xFF), (0x08, 0xFF), (0x0F, 0x10), (0x12, 0x22)]
      (withVoice 2 (atPhase 0x0F000000) (withVoice 1 (atPhase 0xEFFF1000) activeTc)))
    voiceAt c 1 = { Voice.initial with acc := 0x03FEFC00, lfsr := 0x7FFFF0 } ∧
    voiceAt c 2 = Voice.initial := by decide

/-- V-VOI-10: the destination's shift count is the top four bits of the source's accumulator after pass 1. -/
theorem test_syncVoice :
    syncVoice (applied [(0x0B, 0x02)] inertTc) (fun v => v == 0) (fun _ => 0x30000000) 1 (atPhase 0x55565555) =
    { Voice.initial with acc := 0, lfsr := 0x7FFFC0 } := by decide

/-- The table of section 3.5: shifts of the noise register, and the reseeding of 0. -/
theorem test_lfsrShift :
    [0, 1, 2, 3, 7, 15].map (lfsrShift 0x7FFFF8) = [0x7FFFF8, 0x7FFFF0, 0x7FFFE0, 0x7FFFC0, 0x7FFC00, 0x7C0000] ∧
    lfsrShift 0x400000 1 = 0x000001 ∧ lfsrShift 0x420000 1 = 0x040000 ∧ lfsrShift 0 1 = 0x7FFFF8 := by decide

/-- NOISEWAVE of 0x555555, 0x400000 and 0x7FFC00. -/
theorem test_noiseWave :
    [0x555555, 0x400000, 0x7FFC00].map (fun r => noiseWave (withVoice 0 { Voice.initial with lfsr := r } inertTc) 0) =
    [0xE3, 0x80, 0xF8] := by decide

/-- V-VOI-13 to V-VOI-19: TRI, SAW, PULSE at PW = 0x800, TRI & SAW. -/
theorem test_waveforms :
    [0x00000000, 0x00800000, 0x7F800000, 0x80000000, 0xFF800000, 0x12345678, 0xC0000000].map (fun acc =>
      [0x10, 0x20, 0x40, 0x30].map (fun ctl =>
        wave8 (applied [(0x03, 0x08), (0x04, ctl)] (withVoice 0 (atPhase acc) inertTc)) 0)) =
    [[0x00, 0x00, 0x00, 0x00], [0x01, 0x00, 0x00, 0x00], [0xFF, 0x7F, 0x00, 0x7F], [0xFF, 0x80, 0xFF, 0x80],
      [0x00, 0xFF, 0xFF, 0x00], [0x24, 0x12, 0x00, 0x00], [0x7F, 0xC0, 0xFF, 0x40]] := by decide

/-- V-VOI-20 and V-VOI-22: ring modulation from voice 2, and the largest pulse width. -/
theorem test_ring_and_pulse :
    [0x80000000, 0x7FFFFFFF].map (fun acc =>
      wave8 (applied [(0x04, 0x14)] (withVoice 2 (atPhase acc) (withVoice 0 (atPhase 0x12345678) inertTc))) 0) =
      [0xDB, 0x24] ∧
    [0xFFEFFFFF, 0xFFF00000].map (fun acc =>
      wave8 (applied [(0x02, 0xFF), (0x03, 0x0F), (0x04, 0x40)] (withVoice 0 (atPhase acc) inertTc)) 0) =
      [0x00, 0xFF] := by decide

/-- V-ENV-1, V-ENV-2: Attack saturates into Decay, Decay clamps into Sustain, Release falls by the table's shift. -/
theorem test_envelope :
    let c := applied [(0x06, 0xF0)] activeTc
    let tick (x : Voice) : Voice := voiceAt (tickChip (withVoice 0 x c)) 0
    tick { Voice.initial with env := .attack, E := 0x60000000 } = { Voice.initial with env := .decay, E := 0x7FFFFFFF } ∧
    tick { Voice.initial with env := .decay, E := 0x7FFFFFFF } = { Voice.initial with env := .sustain, E := 0x7F800000 } ∧
    tick { Voice.initial with env := .release, E := 0x0F800000, exp := 2 } =
      { Voice.initial with env := .release, E := 0x07800000, exp := 3 } ∧
    tick { Voice.initial with env := .release, E := 0x00800000, exp := 5 } = { Voice.initial with exp := 5 } := by
  decide

/-- V-ENV-4 to V-ENV-6: a write that keeps GATE at 1 restarts a voice in Sustain, not one in Attack; gate off in Idle. -/
theorem test_gate_event :
    gateEvent true true { Voice.initial with env := .sustain, E := 0x44000000, exp := 3 } =
      { Voice.initial with env := .attack, E := 0x44000000 } ∧
    gateEvent true true { Voice.initial with env := .attack, E := 0x60000000 } =
      { Voice.initial with env := .attack, E := 0x60000000 } ∧
    gateEvent false false Voice.initial = Voice.initial := by decide

/-- V-FLT-4 and V-FLT-5. -/
theorem test_filterStep :
    filterStep 32768 0x20000 1000 0 0 = ⟨1000, 500, 250⟩ ∧ filterStep 32768 0x20000 1000 250 500 = ⟨-250, 375, 437⟩ := by
  decide

/-- V-FLT-10 to V-FLT-16. -/
theorem test_outputSample :
    [97920, -97920, 200000, -200000, -24192].map (outputSample (applied [(0x18, 0x0F)] inertTc)) =
      [22950, -22950, 32767, -32768, -5670] ∧
    outputSample (applied [(0x18, 0x01)] inertTc) (-1) = -1 ∧ outputSample inertTc 97920 = 0 := by decide

/-! ### Control -/

/-- V-CTL-1: the pending writes are applied before the rate changes. -/
theorem test_setOutputRate :
    (after ⟨0x00000004, 48000, none⟩ (machine { activeTc with
      queue := [⟨0x00, 0x50, 0⟩, ⟨0x04, 0x11, 882000⟩], frac := 1234, lastWriteCycle := 6 })).map
      (fun t => (t.result, t.chip)) =
    some (.status .ok, { withVoice 0 { Voice.initial with env := .attack } activeTc with
      regs := (activeTc.regs.set 0 0x50).set 4 0x11, sampleRate := 48000, lastWriteCycle := 6 }) := by decide

/-- V-CTL-2 to V-CTL-4, V-EXC-7. -/
theorem test_setOutputRate_bounds :
    [0, -1, 2147483648, 2147483647].map (fun r => (after ⟨0x00000004, r, none⟩ (machine activeTc)).map
      (fun t => (t.result, t.chip.sampleRate))) =
    [some (.status .configInvalid, 0), some (.status .configInvalid, 0), some (.status .configInvalid, 0),
      some (.status .ok, 2147483647)] := by decide

/-- V-CTL-5 and V-CTL-6. -/
theorem test_setClockRate :
    [0, 985248].map (fun r => (after ⟨0x00000005, r, none⟩ (machine activeTc)).map
      (fun t => (t.result, t.chip.clockRate))) =
    [some (.status .configInvalid, 0), some (.status .ok, 985248)] := by decide

/-- V-RST-6, V-EXC-5: RESET discards the queue, keeps the rates and the fault record. -/
theorem test_reset :
    (after ⟨0x00000006, 0, none⟩ { machine { trianglePlaying with
        queue := fullQueue, latch := 3, frac := 5, lastWriteCycle := 7, overflowCount := 2 } with
      fault := [⟨.frontEmpty, 0x0000000B, 0⟩] }).map (fun t => (t.chip, t.fault)) =
    some (activeTc, [⟨.frontEmpty, 0x0000000B, 0⟩]) := by decide

/-- Program P6: SAVE_STATE answers a blob, and LOAD_STATE of it restores the chip whatever has been played since. -/
theorem test_save_and_load :
    let c := { trianglePlaying with queue := [⟨0x04, 0x40, 2646000⟩] }
    returned 0x00000007 0 c = some (.blob (snapshot c)) ∧
    (after ⟨0x00000008, 0, some (snapshot c)⟩ (machine trianglePlaying)).map State.chip = some c := by decide

/-- V-CTL-8 to V-CTL-11. -/
theorem test_loadState_validates :
    (after ⟨0x00000008, 0, some (snapshot activeTc)⟩ (machine { activeTc with qcap := 8 })) =
      some { machine { activeTc with qcap := 8 } with
        fault := [⟨.badStateBlob, 0x00000008, 0⟩], result := .faulted ⟨.badStateBlob, 0x00000008, 0⟩ } ∧
    Blob.valid { snapshot activeTc with voices := [{ Voice.initial.toBlob with E := 0x80000000 }, Voice.initial.toBlob,
      Voice.initial.toBlob] } activeTc = false ∧
    Blob.valid { snapshot activeTc with frac := 882000 } activeTc = false ∧
    Blob.valid { snapshot activeTc with voices := [Voice.initial.toBlob, { Voice.initial.toBlob with lfsr := 0 },
      Voice.initial.toBlob] } activeTc = true := by decide

/-- V-EXC-1 and V-EXC-2: a reserved OP records ARG 0. -/
theorem test_reserved :
    (after ⟨0x00000000, 0, none⟩ (machine activeTc)).map State.fault = some [⟨.reservedCommand, 0x00000000, 0⟩] ∧
    (after ⟨0x0000000E, 5, none⟩ (machine activeTc)).map State.fault = some [⟨.reservedCommand, 0x0000000E, 0⟩] ∧
    (after ⟨0x0000000F, 5, none⟩ (machine activeTc)).map State.fault = some [⟨.reservedCommand, 0x0000000F, 0⟩] := by
  decide

/-- V-EXC-3 and V-EXC-4: the reserved check comes first. -/
theorem test_reserved_first :
    after ⟨0x00100003, 10, none⟩ (machine { activeTc with queue := fullQueue }) =
      some { machine { activeTc with queue := fullQueue } with
        fault := [⟨.reservedCommand, 0x00100003, 10⟩], result := .faulted ⟨.reservedCommand, 0x00100003, 10⟩ } ∧
    (after ⟨0x00A01059, -1, none⟩ (machine activeTc)).map State.fault =
      some [⟨.reservedCommand, 0x00A01059, -1⟩] := by decide

/-- The numbers of the fault and status codes (R129, R130). -/
theorem test_codes :
    [FaultCode.reservedCommand, .frontEmpty, .negativeDelta, .badStateBlob].map FaultCode.value = [1, 2, 3, 4] ∧
    [Status.ok, .configInvalid].map Status.value = [0, 1] := by decide

/-- V-RST-1 and V-RST-2: power-on with TC. -/
theorem test_powerOn : powerOn .tc 4 = (.ok, some (machine inertTc)) ∧ powerOn .tc 0 = (.configInvalid, none) :=
  ⟨rfl, rfl⟩

/-- Right after power-on a word placed where the step takes its next command runs (log 1). -/
theorem test_withFetchWord :
    step (State.reset.withFetchWord 32 0x0000000C) = .next { State.reset with result := .value 0 0 } := rfl

/-! ## Witnesses: for each statement with hypotheses, a concrete state and operands that meet them, clause by clause -/

/-! ### Encoding and the step -/

theorem witness_DecodeOfEncode : WellFormed (.regWriteFrom20 0x3F 0xFF (-1)) = true ∧
    WellFormed (.regReadFrom80 0x80) = true ∧ WellFormed (.qEnqueue 0xFF 0xFF (-1)) = true := by decide

theorem witness_EncodeOfDecode :
    (decode ⟨0x00011041, -2, none⟩ = .ok (.regWriteCtrl0 0x11 (-2)) ∧ Spec.OpTakesArg 0x00011041) ∧
    (decode ⟨0x00000008, 0, some (snapshot inertTc)⟩ = .ok (.loadState (some (snapshot inertTc))) ∧
      Spec.opOf 0x00000008 = 8) :=
  ⟨⟨rfl, by unfold Spec.OpTakesArg; decide⟩, rfl, by decide⟩

/-- A machine with one command pending. -/
def pendingOne (cw : CommandWord) (arg : Arg) : State := { machine activeTc with pending := [⟨cw, arg, none⟩] }

theorem witness_ReservedWordsFault :
    ((pendingOne 0x00100003 10).pending = [⟨0x00100003, 10, none⟩] ∧
      Spec.ReservedWord 0x00100003 ∧ Spec.OpTakesArg 0x00100003) ∧
    ((pendingOne 0x000011C2 10).pending = [⟨0x000011C2, 10, none⟩] ∧
      Spec.ReservedWord 0x000011C2 ∧ ¬ Spec.OpTakesArg 0x000011C2) ∧
    ¬ Spec.ReservedWord 0x000FFFF1 := by
  unfold Spec.ReservedWord Spec.OpTakesArg
  exact ⟨⟨rfl, by decide, by decide⟩, ⟨rfl, by decide, by decide⟩, by decide⟩

/-- Every way a word is reserved has such a word (V-ENC-18 to V-ENC-24), and at the edges of each field a word that is not. -/
theorem witness_ReservedWord :
    Spec.ReservedWord 0x00000000 ∧ Spec.ReservedWord 0xFFFFFFFE ∧
    Spec.ReservedWord 0x0000000F ∧ Spec.ReservedWord 0x00100003 ∧
    Spec.ReservedWord 0x80011041 ∧ Spec.ReservedWord 0x00000013 ∧
    Spec.ReservedWord 0x000011C2 ∧ Spec.ReservedWord 0x00001006 ∧
    ¬ Spec.ReservedWord 0x000FFFF1 ∧ ¬ Spec.ReservedWord 0x00000FF2 ∧
    ¬ Spec.ReservedWord 0x000FFFF9 ∧ ¬ Spec.ReservedWord 0x0000000D := by
  unfold Spec.ReservedWord
  refine ⟨?_, ?_, ?_, ?_, ?_, ?_, ?_, ?_, ?_, ?_, ?_, ?_⟩ <;> decide

theorem witness_StepRunsTheNextCommand :
    ((pendingOne 0x0000000C 0).pending = [⟨0x0000000C, 0, none⟩] ∧ decode ⟨0x0000000C, 0, none⟩ = .ok .qSize) ∧
    (machine activeTc).pending = [] := ⟨⟨rfl, rfl⟩, rfl⟩

/-! ### The bus and APPLY -/

/-- One place left of four. -/
theorem witness_ActiveRegWriteIsQueued :
    let c := { activeTc with queue := fullQueue.tail }
    0 < c.sampleRate ∧ 0 < c.clockRate ∧ c.queue.length < c.qcap := by decide

theorem witness_ActiveRegWriteIntoFullQueueIsDropped :
    let c := { activeTc with queue := fullQueue }
    0 < c.sampleRate ∧ 0 < c.clockRate ∧ c.queue.length = c.qcap := by decide

theorem witness_InertRegWriteAppliesAtOnce :
    (let c := { activeTc with sampleRate := 0 }; c.sampleRate = 0 ∧ 0 < c.clockRate) ∧
    (let c := { activeTc with clockRate := 0 }; c.clockRate = 0 ∧ 0 < c.sampleRate) := by decide

/-- Both ends of each class of addresses, for REG_WRITE. -/
theorem witness_RegWriteOutsideTheSpaceIsIgnored :
    (∀ a ∈ [0x20, 0x3F], WellFormed (.regWriteFrom20 a 0 0) = true) ∧
    (∀ a ∈ [0x40, 0x7F], WellFormed (.regWriteFrom40 a 0 0) = true) ∧
    ∀ a ∈ [0x80, 0xFF], WellFormed (.regWriteFrom80 a 0 0) = true := by decide

theorem witness_RegReadInsideTheSpace :
    ((0 : Fin 32).val ≤ 0x18 ∧ (0x18 : Fin 32).val ≤ 0x18) ∧
    (0x1D ≤ (0x1D : Fin 32).val ∧ 0x1D ≤ (0x1F : Fin 32).val) := by decide

/-- Both ends of each class of addresses, for REG_READ. -/
theorem witness_RegReadOfFreeBytes :
    (∀ a ∈ [0x20, 0x3F], WellFormed (.regReadFrom20 a) = true) ∧
    (∀ a ∈ [0x40, 0x7F], WellFormed (.regReadFrom40 a) = true) ∧
    ∀ a ∈ [0x80, 0xFF], WellFormed (.regReadFrom80 a) = true := by decide

theorem witness_ApplyStoresTheByte :
    (0 : Fin 25).val ∉ [4, 11, 18, 24] ∧ (23 : Fin 25).val ∉ [4, 11, 18, 24] := by decide

/-- Each clause of the gate event: a rising edge, the retrigger in Sustain and Idle, no effect in Attack, gate off. -/
theorem witness_ApplyCtrlMakesTheGateEvent :
    (inertTc.regs.get (voiceAddr 0 4)).getLsbD 0 = false ∧ (0x11 : Byte).getLsbD 0 = true ∧
    (0x10 : Byte).getLsbD 0 = false ∧ (voiceAt inertTc 0).env = .idle ∧
    (let c := applied [(0x04, 0x01)] inertTc;
      (c.regs.get (voiceAddr 0 4)).getLsbD 0 = true ∧ (voiceAt c 0).env ≠ .sustain ∧ (voiceAt c 0).env ≠ .idle ∧
        (voiceAt c 0).env = .attack) ∧
    (voiceAt (withVoice 0 { Voice.initial with env := .sustain } inertTc) 0).env = .sustain := by decide

/-- LP, BP and HP kept, and one of them changed. -/
theorem witness_ApplyModeVolResetsTheFilter :
    (∀ b ∈ [4, 5, 6], (inertTc.regs.get 0x18).getLsbD b = (0x8F : Byte).getLsbD b) ∧
    (inertTc.regs.get 0x18).getLsbD 6 ≠ (0x40 : Byte).getLsbD 6 := by decide

theorem witness_ApplyOutsideTheRegistersIsNothing :
    0x19 ≤ (0x19 : Byte).toNat ∧ 0x19 ≤ (0xFF : Byte).toNat := by decide

/-! ### The tick -/

/-- A chip whose voice 1 wraps at the next tick and is voice 2's hard-sync source. -/
def syncing : Chip :=
  applied [(0x07, 0xFF), (0x08, 0xFF), (0x0F, 0x10), (0x12, 0x22)] (withVoice 1 (atPhase 0xEFFF1000) activeTc)

/-- TEST; hard sync from a source that carries; an own carry without sync; no carry. -/
theorem witness_OscillatorOverATick :
    test (applied [(0x04, 0x08)] activeTc) 0 = true ∧
    (test syncing 2 = false ∧ sync syncing 2 = true ∧ Spec.Carries syncing (2 + 2)) ∧
    (test syncing 1 = false ∧ ¬ (sync syncing 1 = true ∧ Spec.Carries syncing (1 + 2)) ∧ Spec.Carries syncing 1) ∧
    (test syncing 0 = false ∧ ¬ (sync syncing 0 = true ∧ Spec.Carries syncing (0 + 2)) ∧ ¬ Spec.Carries syncing 0) := by
  unfold Spec.Carries
  decide

theorem witness_NoiseRegisterNeverShiftsToZero : lfsrSeed ≠ 0 ∧ (0x400000 : Noise) ≠ 0 := by decide

/-- A chip whose voices 0 and 1 have STEP 2^31, period 2; voice 1 has SYNC and its source TEST. -/
def halfPeriod : Chip :=
  applied [(0x00, 0x01), (0x07, 0x01), (0x04, 0x08), (0x0B, 0x02)]
    { inertTc with sampleRate := 1, clockRate := 8388608 }

/-- With SYNC set and a source that never carries; and an accumulator that has returned. -/
theorem witness_AccumulatorIsPeriodic :
    test halfPeriod 1 = false ∧ sync halfPeriod 1 = true ∧
    (∀ k, sync halfPeriod 1 = true → ¬ Spec.Carries (ticks k halfPeriod).2 (1 + 2)) ∧
    (0 < 2 ∧ (voiceAt (ticks 2 halfPeriod).2 1).acc = (voiceAt halfPeriod 1).acc ∧ step32 halfPeriod 1 = 0x80000000) := by
  refine ⟨by decide, by decide, fun k _ h => ?_, by decide⟩
  have hk : test (ticks k halfPeriod).2 (1 + 2) = test halfPeriod (1 + 2) := by
    unfold test ctrl regAt
    rw [ticks_regs]
  rw [Spec.Carries, hk] at h
  exact absurd h.1 (by decide)

/-- Each envelope state; in Decay from the threshold up. -/
theorem witness_EnvelopeOverATick :
    ∀ e : EnvState, (voiceAt (withVoice 0 { Voice.initial with env := e } activeTc) 0).env = e := by
  intro e
  cases e <;> decide

/-- The index advances below the first threshold, not at it, and not past the last one. -/
theorem witness_IndexAdvances :
    Spec.IndexAdvances activeTc 0 0x2E7FFFFF .release ∧ ¬ Spec.IndexAdvances activeTc 0 0x2E800000 .decay ∧
    ¬ Spec.IndexAdvances activeTc 5 0 .decay ∧ ¬ Spec.IndexAdvances activeTc 0 0 .attack := by
  unfold Spec.IndexAdvances
  decide

theorem witness_EnvelopeIsMonotonic :
    let c := withVoice 0 { Voice.initial with env := .decay, E := 0x7F800000 } (applied [(0x06, 0xF0)] activeTc)
    (voiceAt c 0).env = .decay ∧ (sustainThreshold c 0).toNat ≤ (voiceAt c 0).E.toNat := by decide

theorem witness_IntegratorsOverATick :
    filtered (applied [(0x17, 0xF1)] activeTc) 0 = true ∧ filtered (applied [(0x17, 0xF1)] activeTc) 1 = false := by decide

/-! ### RENDER -/

theorem witness_RenderWithoutWork :
    ((0 : Arg).toInt ≤ 0 ∧ (-5 : Arg).toInt ≤ 0) ∧ 0 < (1 : Arg).toInt ∧
    inertTc.sampleRate = 0 ∧ (let c := { activeTc with clockRate := 0 }; c.clockRate = 0) := by decide

theorem witness_RenderOfAnEmptyQueueFreeRuns :
    0 < (1 : Arg).toInt ∧ 0 < activeTc.sampleRate ∧ 0 < activeTc.clockRate ∧ activeTc.queue = [] := by decide

/-- One sample left of an empty queue; and section 3.4's two deltas: 3 samples, the whole of what is left; and 4. -/
theorem witness_ReplayOfTheFrontWrite :
    0 < 1 ∧
    (let c := { activeTc with queue := [⟨4, 0x11, 2646000⟩] };
      0 < c.clockRate ∧ (c.frac + 2646000) / c.clockRate ≤ 3) ∧
    (let c := { activeTc with queue := [⟨4, 0x11, 3600000⟩] };
      0 < c.clockRate ∧ 3 < (c.frac + 3600000) / c.clockRate) := by decide

/-- The state of V-RND-2 and its neighbour in which nothing is skipped. -/
def backlogged : Chip := { activeTc with queue := [⟨0, 0x50, 6000000⟩, ⟨4, 0x11, 5000000⟩], frac := 881999 }

/-- A RENDER that skips a write (V-RND-2), and one of exactly its length, which skips none (V-RND-9). -/
theorem witness_BacklogSkipsTheOldest :
    (0 < (10 : Arg).toInt ∧ 0 < backlogged.sampleRate ∧ 0 < backlogged.clockRate ∧
      (10 : Arg).toInt.toNat * backlogged.clockRate < totalDelta backlogged.queue) ∧
    (backlog 10 { activeTc with queue := [⟨4, 0x11, 8820000⟩] }).queue = [⟨4, 0x11, 8820000⟩] := by decide

/-- The TC chip with any queue within the capacity and any fraction of a sample is sound. -/
theorem sound_activeTc (q : List Entry) (frac : Nat) (hq : q.length ≤ 4) (hf : frac < 882000) :
    Chip.Sound { activeTc with queue := q, frac := frac } :=
  have hv : ∀ v, (voiceAt inertTc v).exp ≤ lutK .tc := by decide
  ⟨show 0 < 4 by decide, hq, hv, fun _ => hf, fun h => absurd h (show ¬ (882000 = 0) by decide)⟩

theorem witness_RenderLeavesLessThanASample :
    backlogged.Sound ∧ 0 < (10 : Arg).toInt ∧ 0 < backlogged.sampleRate ∧ 0 < backlogged.clockRate :=
  ⟨sound_activeTc _ _ (by decide) (by decide), by decide⟩

/-- With a skip and, for a longer buffer, without one. -/
theorem witness_RenderConservesTime :
    backlogged.Sound ∧ 0 < (10 : Arg).toInt ∧ 0 < (13 : Arg).toInt ∧ 0 < backlogged.sampleRate ∧
    0 < backlogged.clockRate ∧ ¬ totalDelta backlogged.queue ≤ 10 * backlogged.clockRate ∧
    totalDelta backlogged.queue ≤ 13 * backlogged.clockRate :=
  ⟨sound_activeTc _ _ (by decide) (by decide), by decide⟩

/-- What WriteLandsAtItsSample supposes of an active TC chip with a fraction, for the write behind `before`. -/
theorem lands_activeTc (n : Arg) (before after : List Entry) (e : Entry) (frac : Nat)
    (hq : (before ++ e :: after).length ≤ 4) (hf : frac < 882000) (hn : 0 < n.toInt)
    (ht : totalDelta (before ++ e :: after) ≤ n.toInt.toNat * 882000) :
    let s := machine { activeTc with queue := before ++ e :: after, frac := frac }
    s.chip.Sound ∧ 0 < n.toInt ∧ 0 < s.chip.sampleRate ∧ 0 < s.chip.clockRate ∧ s.chip.queue = before ++ e :: after ∧
    totalDelta s.chip.queue ≤ n.toInt.toNat * s.chip.clockRate :=
  ⟨sound_activeTc _ _ hq hf, hn, show 0 < 44100 by decide, show 0 < 882000 by decide, rfl, ht⟩

/-- The second of two writes inside the buffer; V-RND-9, a write at the end of the buffer; and V-RND-3, a write whose
predecessor fills the buffer. -/
theorem witness_WriteLandsAtItsSample :
    ((881999 + totalDelta [⟨0, 0x50, 6000000⟩]) / 882000 < (14 : Arg).toInt.toNat ∧
      totalDelta ([⟨0, 0x50, 6000000⟩] ++ [⟨4, 0x11, 5000000⟩]) ≤ (14 : Arg).toInt.toNat * 882000) ∧
    ((0 + totalDelta []) / 882000 < (10 : Arg).toInt.toNat ∧ (0 + totalDelta [] + 8820000) / 882000 = 10 ∧
      totalDelta ([] ++ [⟨4, 0x11, 8820000⟩]) ≤ (10 : Arg).toInt.toNat * 882000) ∧
    ((2 : Arg).toInt.toNat ≤ (0 + totalDelta [⟨0x18, 0x0F, 1764000⟩]) / 882000 ∧
      totalDelta ([⟨0x18, 0x0F, 1764000⟩] ++ [⟨4, 0x11, 0⟩]) ≤ (2 : Arg).toInt.toNat * 882000) := by decide

theorem witness_RenderFrame : exec (.render 3) (machine activeTc) = .next (render 3 (machine activeTc)) := rfl

/-- The chip right after RESET is silent, an active one too. -/
theorem witness_SilenceStaysSilent :
    Spec.Silent activeTc ∧ exec .reset (machine activeTc) = .next ((machine (resetChip activeTc)).finish .none) :=
  ⟨⟨rfl, by decide, rfl⟩, rfl⟩

/-! ### Queue commands -/

theorem witness_QueueEnqueue :
    (-1 : Arg).toInt < 0 ∧ 0 ≤ (0 : Arg).toInt ∧
    (let c := { activeTc with queue := fullQueue.tail }; c.queue.length ≠ c.qcap) ∧
    (let c := { activeTc with queue := fullQueue }; c.queue.length = c.qcap) := by decide

theorem witness_QueueDequeue :
    activeTc.queue = [] ∧ (let c := { activeTc with queue := fullQueue }; c.queue = ⟨0, 1, 0⟩ :: fullQueue.tail) := by decide

theorem witness_QueueFront :
    activeTc.queue = [] ∧ (let c := { activeTc with queue := [⟨4, 0x11, 9⟩] }; c.queue = ⟨4, 0x11, 9⟩ :: []) := by decide

/-- A sum at the edge of 64 bits. -/
theorem witness_QueueSizeAndTotal :
    let c := { activeTc with queue := [⟨0, 1, 2 ^ 64 - 2⟩, ⟨0, 1, 1⟩] }
    c.queue.length < 2 ^ 64 ∧ (c.queue.map Entry.delta).sum < 2 ^ 64 ∧ (c.queue.map Entry.delta).sum + 1 = 2 ^ 64 := by
  decide

/-! ### Control -/

/-- Both ends of the valid range and the numbers next to them. -/
theorem witness_SetOutputRate :
    (1 ≤ (1 : Arg).toInt ∧ (2147483647 : Arg).toInt ≤ 2147483647 ∧ 1 ≤ (2147483647 : Arg).toInt) ∧
    (0 : Arg).toInt < 1 ∧ 2147483647 < (2147483648 : Arg).toInt := by decide

theorem witness_SetClockRate : 1 ≤ (1 : Arg).toInt ∧ (0 : Arg).toInt < 1 ∧ (-1 : Arg).toInt < 1 := by decide

/-- The blob of a playing chip is valid for a chip of the same configuration. -/
theorem witness_LoadState_valid : Spec.ValidBlob (snapshot trianglePlaying) (machine activeTc).chip := by
  refine ⟨by decide, by decide, by decide, ?_, ?_, ?_, ?_, by decide, by decide, ?_, by decide⟩ <;>
    simp only [Spec.Unsigned, Spec.Signed] <;> decide

/-- What is no snapshot record, and a blob whose envelope counter is above its maximum (V-CTL-9), are not. -/
theorem witness_LoadState_invalid :
    (∀ b' : Blob, (none : Option Blob) = some b' → ¬ Spec.ValidBlob b' activeTc) ∧
    ¬ Spec.ValidBlob { snapshot activeTc with voices := [{ Voice.initial.toBlob with E := 0x80000000 },
      Voice.initial.toBlob, Voice.initial.toBlob] } activeTc := by
  refine ⟨fun _ h => absurd h (by simp), fun h => ?_⟩
  have hx := (h.voices.2 { Voice.initial.toBlob with E := 0x80000000 } (List.mem_cons_self ..)).2.2.1
  exact absurd hx (by simp only [Spec.Unsigned]; decide)

theorem witness_SnapshotRoundTrip :
    backlogged.Sound ∧ activeTc.variant = backlogged.variant ∧ activeTc.qcap = backlogged.qcap :=
  ⟨sound_activeTc _ _ (by decide) (by decide), rfl, rfl⟩

/-- Two machines that differ outside the chip. -/
theorem witness_CommandsDependOnTheSnapshotAlone :
    let s := machine activeTc
    let s' := { machine activeTc with fault := [⟨.frontEmpty, 0x0000000B, 0⟩], result := .value 3 3 }
    s ≠ s' ∧ s.chip = s'.chip ∧ s.drawn = s'.drawn ∧
    exec .qSize s = .next (s.finish (.value 0 0)) ∧ exec .qSize s' = .next (s'.finish (.value 0 0)) :=
  ⟨by decide, rfl, rfl, rfl, rfl⟩

/-- A capacity below 1, a variant that is not supported (the list is finite), and one that is. -/
theorem witness_PowerOn :
    ((0 : Int) < 1) ∧ (∃ n, Variant.chip n ∉ Config.supportedVariants) ∧
    Config.powerOnVariant ∈ Config.supportedVariants ∧ (1 : Int) ≤ 1 := by
  have hinj : Function.Injective Variant.chip := fun _ _ h => by injection h
  have := Infinite.of_injective _ hinj
  obtain ⟨n, hn⟩ := ((List.finite_toSet Config.supportedVariants).preimage hinj.injOn).exists_notMem
  exact ⟨by decide, ⟨n, hn⟩, by simp [Config.supportedVariants], by decide⟩

/-! ### The whole machine -/

theorem witness_StepKeepsTheChipSound :
    Chip.Sound (machine activeTc).chip ∧
    step (pendingOne 0x0000000C 0) = .next ((machine activeTc).finish (.value 0 0)) :=
  ⟨sound_activeTc [] 0 (by decide) (by decide), rfl⟩

theorem witness_FaultsArePrecise :
    let t := raiseFault (machine activeTc) .frontEmpty 0x0000000B 0
    exec .qFront (machine activeTc) = .next t ∧ t.result = .faulted ⟨.frontEmpty, 0x0000000B, 0⟩ := ⟨rfl, rfl⟩

/-- A step that records a fault. -/
theorem witness_RecordsOnlyGrow :
    step (pendingOne 0x0000000B 0) = .next (raiseFault (machine activeTc) .frontEmpty 0x0000000B 0) := rfl

theorem witness_ConfigurationIsFixed :
    step (pendingOne 0x00000006 0) = .next ((machine (resetChip activeTc)).finish .none) := rfl

theorem witness_OnlyTheseCommandsReachSynthesis :
    active activeTc = true ∧ ¬ Spec.ReachesSynthesis .qDequeue ∧
    exec .qDequeue (machine activeTc) = .next ((machine (popFront activeTc)).finish .none) :=
  ⟨by decide, id, rfl⟩

end Sys2Proof.Tests
end

