-- ==== Sys2Proof/Proofs/DecayTable.lean ====
section
/-! The order of the decay lookup table (00_scope.md R9): whatever the raw table is, the rows kept from it have strictly
decreasing thresholds (log 13). -/

namespace Sys2Proof.Machine

/-- The order R9 asks for between an earlier row of the table and a later one. -/
def ThresholdFalls (a b : EnvCounter × Fin 32) : Prop := b.1 < a.1

@[simp] theorem keepDecreasing_nil (bound : Option EnvCounter) : keepDecreasing bound [] = [] := by
  cases bound <;> rfl

theorem keepDecreasing_none_cons (row : EnvCounter × Fin 32) (rows : List (EnvCounter × Fin 32)) :
    keepDecreasing none (row :: rows) = row :: keepDecreasing (some row.1) rows := rfl

theorem keepDecreasing_cons_of_lt {bound : EnvCounter} {row : EnvCounter × Fin 32} (h : row.1 < bound)
    (rows : List (EnvCounter × Fin 32)) :
    keepDecreasing (some bound) (row :: rows) = row :: keepDecreasing (some row.1) rows := if_pos h

theorem keepDecreasing_cons_of_not_lt {bound : EnvCounter} {row : EnvCounter × Fin 32} (h : ¬ row.1 < bound)
    (rows : List (EnvCounter × Fin 32)) :
    keepDecreasing (some bound) (row :: rows) = keepDecreasing (some bound) rows := if_neg h

/-- Every row kept under a bound lies strictly below it: the bound only tightens along the table. -/
theorem lt_of_mem_keepDecreasing {bound : EnvCounter} {rows : List (EnvCounter × Fin 32)} {kept : EnvCounter × Fin 32}
    (hmem : kept ∈ keepDecreasing (some bound) rows) : kept.1 < bound := by
  induction rows generalizing bound with
  | nil => simp at hmem
  | cons row rows ih =>
    by_cases hrow : row.1 < bound
    · rw [keepDecreasing_cons_of_lt hrow, List.mem_cons] at hmem
      obtain rfl | hlater := hmem
      · exact hrow
      · exact BitVec.lt_trans (ih hlater) hrow
    · rw [keepDecreasing_cons_of_not_lt hrow] at hmem
      exact ih hmem

/-- A kept row in front of what is kept under its own threshold stays in order. -/
theorem thresholdFalls_cons_keepDecreasing {row : EnvCounter × Fin 32} {rows : List (EnvCounter × Fin 32)}
    (h : (keepDecreasing (some row.1) rows).Pairwise ThresholdFalls) :
    (row :: keepDecreasing (some row.1) rows).Pairwise ThresholdFalls :=
  List.pairwise_cons.mpr ⟨fun _ hmem => lt_of_mem_keepDecreasing hmem, h⟩

theorem keepDecreasing_pairwise (bound : Option EnvCounter) (rows : List (EnvCounter × Fin 32)) :
    (keepDecreasing bound rows).Pairwise ThresholdFalls := by
  induction rows generalizing bound with
  | nil => simp
  | cons row rows ih =>
    cases bound with
    | none =>
      rw [keepDecreasing_none_cons]
      exact thresholdFalls_cons_keepDecreasing (ih _)
    | some bound =>
      by_cases hrow : row.1 < bound
      · rw [keepDecreasing_cons_of_lt hrow]
        exact thresholdFalls_cons_keepDecreasing (ih _)
      · rw [keepDecreasing_cons_of_not_lt hrow]
        exact ih _

/-- Settles O60: a chip's table is what `keepDecreasing` leaves of its raw table; the table of TC and TC-A is five rows
written out. -/
theorem decayTableIsDecreasing : Obligations.DecayTableIsDecreasing := by
  intro variant
  cases variant with
  | chip n => exact keepDecreasing_pairwise none (Config.rawDecayTable n)
  | tc => decide
  | tcA => decide

end Sys2Proof.Machine
end

section
/-! The derived fields of the registers as numbers (10_state.md R18): how a byte's bit, nibble or low part reads as a number,
then one equation for each field. -/

namespace Sys2Proof.Machine

/-! ## Parts of a register byte -/

theorem getLsbD_eq_decide {w : Nat} (x : BitVec w) (i : Nat) :
    x.getLsbD i = decide (x.toNat / 2 ^ i % 2 = 1) :=
  Nat.testBit_eq_decide_div_mod_eq

/-- The top bit of a byte needs no remainder: nothing stands above it. -/
theorem getLsbD_seven_eq_decide (x : Byte) : x.getLsbD 7 = decide (x.toNat / 128 = 1) := by
  have hbit := getLsbD_eq_decide x 7
  have hlt := x.isLt
  rwa [Nat.mod_eq_of_lt (by omega)] at hbit

theorem lowPart_toNat {w : Nat} (x : BitVec w) (n : Nat) : (x.extractLsb' 0 n).toNat = x.toNat % 2 ^ n := by
  rw [BitVec.extractLsb'_toNat, Nat.shiftRight_zero]

theorem highNibble_toNat (x : Byte) : (x.extractLsb' 4 4).toNat = x.toNat / 16 := by
  have hlt := x.isLt
  rw [BitVec.extractLsb'_toNat, Nat.shiftRight_eq_div_pow]
  omega

/-! ## The fields of a voice -/

theorem freq_toNat (c : Chip) (v : VoiceId) :
    (freq c v).toNat = 256 * (regAt c (voiceAddr v 1)).toNat + (regAt c (voiceAddr v 0)).toNat := by
  rw [freq, toNat_append_add]
  omega

theorem pulseWidth_toNat (c : Chip) (v : VoiceId) :
    (pulseWidth c v).toNat = 256 * ((regAt c (voiceAddr v 3)).toNat % 16) + (regAt c (voiceAddr v 2)).toNat := by
  rw [pulseWidth, toNat_append_add, lowPart_toNat]
  omega

theorem gate_eq_decide (c : Chip) (v : VoiceId) : gate c v = decide ((ctrl c v).toNat % 2 = 1) := by
  rw [gate, getLsbD_eq_decide, Nat.pow_zero, Nat.div_one]

theorem sync_eq_decide (c : Chip) (v : VoiceId) : sync c v = decide ((ctrl c v).toNat / 2 % 2 = 1) :=
  getLsbD_eq_decide _ 1

theorem ring_eq_decide (c : Chip) (v : VoiceId) : ring c v = decide ((ctrl c v).toNat / 4 % 2 = 1) :=
  getLsbD_eq_decide _ 2

theorem test_eq_decide (c : Chip) (v : VoiceId) : test c v = decide ((ctrl c v).toNat / 8 % 2 = 1) :=
  getLsbD_eq_decide _ 3

theorem triSelected_eq_decide (c : Chip) (v : VoiceId) :
    triSelected c v = decide ((ctrl c v).toNat / 16 % 2 = 1) :=
  getLsbD_eq_decide _ 4

theorem sawSelected_eq_decide (c : Chip) (v : VoiceId) :
    sawSelected c v = decide ((ctrl c v).toNat / 32 % 2 = 1) :=
  getLsbD_eq_decide _ 5

theorem pulseSelected_eq_decide (c : Chip) (v : VoiceId) :
    pulseSelected c v = decide ((ctrl c v).toNat / 64 % 2 = 1) :=
  getLsbD_eq_decide _ 6

theorem noiseSelected_eq_decide (c : Chip) (v : VoiceId) :
    noiseSelected c v = decide ((ctrl c v).toNat / 128 = 1) :=
  getLsbD_seven_eq_decide _

theorem attackRate_toNat (c : Chip) (v : VoiceId) :
    (attackRate c v).toNat = (regAt c (voiceAddr v 5)).toNat / 16 :=
  highNibble_toNat _

theorem decayRate_toNat (c : Chip) (v : VoiceId) :
    (decayRate c v).toNat = (regAt c (voiceAddr v 5)).toNat % 16 :=
  lowPart_toNat _ 4

theorem sustainNibble_toNat (c : Chip) (v : VoiceId) :
    (sustainNibble c v).toNat = (regAt c (voiceAddr v 6)).toNat / 16 :=
  highNibble_toNat _

theorem releaseRate_toNat (c : Chip) (v : VoiceId) :
    (releaseRate c v).toNat = (regAt c (voiceAddr v 6)).toNat % 16 :=
  lowPart_toNat _ 4

/-- Even the largest threshold, `(15 * 17) << 23`, fits in the 31 bits of the envelope counter. -/
theorem sustainThreshold_toNat (c : Chip) (v : VoiceId) :
    (sustainThreshold c v).toNat = (regAt c (voiceAddr v 6)).toNat / 16 * 17 * 2 ^ 23 := by
  have hnibble := (sustainNibble c v).isLt
  rw [sustainThreshold, BitVec.toNat_ofNat, Nat.shiftLeft_eq, Nat.mod_eq_of_lt (by omega), sustainNibble_toNat]

/-! ## The fields of the filter and the output -/

theorem cutoff_toNat (c : Chip) :
    (cutoff c).toNat = 8 * (regAt c 0x16).toNat + (regAt c 0x15).toNat % 8 := by
  rw [cutoff, toNat_append_add, lowPart_toNat]
  omega

theorem resonance_toNat (c : Chip) : (resonance c).toNat = (regAt c 0x17).toNat / 16 :=
  highNibble_toNat _

theorem filtered_eq_decide (c : Chip) (v : VoiceId) :
    filtered c v = decide ((regAt c 0x17).toNat / 2 ^ v.val % 2 = 1) :=
  getLsbD_eq_decide _ v.val

theorem volume_toNat (c : Chip) : (volume c).toNat = (regAt c 0x18).toNat % 16 :=
  lowPart_toNat _ 4

theorem lowPass_eq_decide (c : Chip) : lowPass c = decide ((regAt c 0x18).toNat / 16 % 2 = 1) :=
  getLsbD_eq_decide _ 4

theorem bandPass_eq_decide (c : Chip) : bandPass c = decide ((regAt c 0x18).toNat / 32 % 2 = 1) :=
  getLsbD_eq_decide _ 5

theorem highPass_eq_decide (c : Chip) : highPass c = decide ((regAt c 0x18).toNat / 64 % 2 = 1) :=
  getLsbD_eq_decide _ 6

theorem off3_eq_decide (c : Chip) : off3 c = decide ((regAt c 0x18).toNat / 128 = 1) :=
  getLsbD_seven_eq_decide _

/-- Settles O17, field by field; STEP is by definition the calibration's `freqStep` of FREQ. -/
theorem derivedFieldsOfTheRegisters : Obligations.DerivedFieldsOfTheRegisters := by
  intro c v
  exact
    ⟨freq_toNat c v, pulseWidth_toNat c v,
      gate_eq_decide c v, sync_eq_decide c v, ring_eq_decide c v, test_eq_decide c v,
      triSelected_eq_decide c v, sawSelected_eq_decide c v, pulseSelected_eq_decide c v, noiseSelected_eq_decide c v,
      attackRate_toNat c v, decayRate_toNat c v, sustainNibble_toNat c v, releaseRate_toNat c v,
      cutoff_toNat c, resonance_toNat c, filtered_eq_decide c v,
      volume_toNat c, lowPass_eq_decide c, bandPass_eq_decide c, highPass_eq_decide c, off3_eq_decide c,
      rfl, sustainThreshold_toNat c v⟩

end Sys2Proof.Machine
end

section
/-! The configuration of a chip (10_state.md R15): no shared operation, command or step changes its variant or its capacity. -/

namespace Sys2Proof.Machine

/-- What R15 fixes at power-on. -/
def Chip.configuration (c : Chip) : Variant × Nat := (c.variant, c.qcap)

theorem Chip.configuration_eq_iff {a b : Chip} :
    a.configuration = b.configuration ↔ a.variant = b.variant ∧ a.qcap = b.qcap :=
  Prod.mk_inj

/-! ## The shared operations -/

@[simp] theorem applyWrite_configuration (a d : Byte) (c : Chip) :
    (applyWrite a d c).configuration = c.configuration := by
  simp [Chip.configuration_eq_iff]

@[simp] theorem applyFront_configuration (e : Entry) (c : Chip) :
    (applyFront e c).configuration = c.configuration :=
  applyWrite_configuration e.addr e.value (popFront c)

@[simp] theorem decFront_configuration (c : Chip) (x : Nat) : (decFront c x).configuration = c.configuration := by
  unfold decFront
  split <;> rfl

@[simp] theorem flush_configuration (c : Chip) : (flush c).configuration = c.configuration := by
  simp [Chip.configuration_eq_iff]

@[simp] theorem backlog_configuration (n : Nat) (c : Chip) : (backlog n c).configuration = c.configuration := by
  simp [Chip.configuration_eq_iff]

@[simp] theorem ticks_configuration (k : Nat) (c : Chip) : (ticks k c).2.configuration = c.configuration := by
  simp [Chip.configuration_eq_iff]

@[simp] theorem replay_configuration (q : List Entry) (rem : Nat) (c : Chip) :
    (replay q rem c).2.configuration = c.configuration :=
  replay_keeps Chip.configuration ticks_configuration (fun _ e c => applyFront_configuration e c)
    (fun m c => decFront_configuration c (m * c.clockRate)) (fun _ => rfl) q rem c

@[simp] theorem renderActive_configuration (n : Nat) (c : Chip) :
    (renderActive n c).2.configuration = c.configuration := by
  simp [renderActive]

@[simp] theorem enqueue_configuration (s : State) (e : Entry) :
    (enqueue s e).chip.configuration = s.chip.configuration := by
  obtain ⟨-, h⟩ | ⟨-, h⟩ := enqueue_cases s e <;> rw [h] <;> rfl

/-- LOAD_STATE accepts a blob of the chip's own variant and capacity only (46_control.md R126). -/
theorem toChip_configuration_of_valid {b : Blob} {c : Chip} (h : b.valid c = true) :
    b.toChip.configuration = c.configuration := by
  obtain ⟨hvariant, hqcap⟩ : b.variant = c.variant ∧ b.qcap = c.qcap := by
    simp only [Blob.valid, Bool.and_eq_true, decide_eq_true_eq] at h
    tauto
  exact Chip.configuration_eq_iff.mpr ⟨hvariant, by simp [Blob.toChip, hqcap]⟩

/-! ## The commands -/

theorem regWrite_configuration (addr data : Byte) (cycle : Arg) (s : State) :
    (regWrite addr data cycle s).chip.configuration = s.chip.configuration := by
  obtain ⟨-, h⟩ | ⟨-, h⟩ | ⟨-, h⟩ := regWrite_cases addr data cycle s
  · rw [h]; rfl
  · rw [h]; exact enqueue_configuration _ _
  · rw [h]; exact applyWrite_configuration addr data { s.chip with latch := data }

theorem regRead_configuration (addr : Byte) (s : State) :
    (regRead addr s).chip.configuration = s.chip.configuration := by
  obtain ⟨b, h⟩ | h := regRead_cases addr s <;> rw [h] <;> rfl

theorem render_configuration (n : Int) (s : State) : (render n s).chip.configuration = s.chip.configuration := by
  unfold render
  split
  · rfl
  · split
    · exact renderActive_configuration _ _
    · rfl

theorem setOutputRate_configuration (r : Int) (s : State) :
    (setOutputRate r s).chip.configuration = s.chip.configuration := by
  unfold setOutputRate
  split <;> exact flush_configuration s.chip

theorem setClockRate_configuration (r : Int) (s : State) :
    (setClockRate r s).chip.configuration = s.chip.configuration := by
  unfold setClockRate
  split <;> exact flush_configuration s.chip

/-- An outcome whose next state, if it is one, has the configuration of `s`. -/
def KeepsConfiguration (s : State) (o : Out) : Prop :=
  ∀ t, o = .next t → t.chip.configuration = s.chip.configuration

theorem keepsConfiguration_next {s t : State} :
    KeepsConfiguration s (.next t) ↔ t.chip.configuration = s.chip.configuration :=
  ⟨fun h => h t rfl, fun h _ heq => by cases heq; exact h⟩

theorem execLoadState_keepsConfiguration (blob : Option Blob) (s : State) :
    KeepsConfiguration s (execLoadState blob s) := by
  unfold execLoadState
  split
  · exact keepsConfiguration_next.mpr rfl
  · split
    next hvalid => exact keepsConfiguration_next.mpr (toChip_configuration_of_valid hvalid)
    next => exact keepsConfiguration_next.mpr rfl

theorem execQEnqueue_keepsConfiguration (addr data : Byte) (delta : Arg) (s : State) :
    KeepsConfiguration s (execQEnqueue addr data delta s) := by
  unfold execQEnqueue
  split
  · exact keepsConfiguration_next.mpr rfl
  · exact keepsConfiguration_next.mpr (enqueue_configuration s _)

theorem execQFront_keepsConfiguration (s : State) : KeepsConfiguration s (execQFront s) := by
  unfold execQFront
  split <;> exact keepsConfiguration_next.mpr rfl

theorem exec_keepsConfiguration (i : Instr) (s : State) : KeepsConfiguration s (exec i s) := by
  obtain ⟨addr, data, cycle, hexec⟩ | ⟨addr, hexec⟩ | ⟨n, rfl⟩ | ⟨r, rfl⟩ | ⟨r, rfl⟩ | rfl | rfl | ⟨blob, rfl⟩ |
    ⟨addr, data, delta, rfl⟩ | rfl | rfl | rfl | rfl | ⟨rest, rfl⟩ | ⟨rest, rfl⟩ | ⟨rest, rfl⟩ := exec_cases i
  · rw [hexec]
    exact keepsConfiguration_next.mpr (regWrite_configuration addr data cycle s)
  · rw [hexec]
    exact keepsConfiguration_next.mpr (regRead_configuration addr s)
  · exact keepsConfiguration_next.mpr (render_configuration n.toInt s)
  · exact keepsConfiguration_next.mpr (setOutputRate_configuration r.toInt s)
  · exact keepsConfiguration_next.mpr (setClockRate_configuration r.toInt s)
  · exact keepsConfiguration_next.mpr rfl
  · exact keepsConfiguration_next.mpr rfl
  · exact execLoadState_keepsConfiguration blob s
  · exact execQEnqueue_keepsConfiguration addr data delta s
  · exact keepsConfiguration_next.mpr rfl
  · exact execQFront_keepsConfiguration s
  all_goals exact keepsConfiguration_next.mpr rfl

/-! ## The step -/

/-- Taking the next command off the agents' order leaves the chip alone, so a step keeps what its command keeps. -/
theorem step_keepsConfiguration (s : State) : KeepsConfiguration s (step s) := by
  obtain ⟨-, h⟩ | ⟨p, rest, i, -, -, h⟩ | ⟨p, rest, e, -, -, h⟩ := step_cases s
  · rw [h]; exact keepsConfiguration_next.mpr rfl
  · rw [h]; exact exec_keepsConfiguration i { s with pending := rest }
  · rw [h]; exact keepsConfiguration_next.mpr rfl

/-- Settles O58: the configuration is a pair, kept by every command and so by every step. -/
theorem configurationIsFixed : Obligations.ConfigurationIsFixed :=
  fun s t h => Chip.configuration_eq_iff.mp (step_keepsConfiguration s t h)

end Sys2Proof.Machine
end

section
/-! The agents' total order of commands (20_memory.md R33, R37): what a step does with its front. -/

namespace Sys2Proof.Machine

theorem step_of_decode_ok {s : State} {p : Command} {rest : List Command} {i : Instr}
    (hpending : s.pending = p :: rest) (hdecode : decode p = .ok i) :
    step s = exec i { s with pending := rest } := by
  simp [step, fetch, hpending, hdecode]

/-- A chip that has no command waits (log 2). -/
theorem step_of_pending_nil {s : State} (hpending : s.pending = []) : step s = .next s := by
  simp [step, fetch, hpending]

/-- Settles O6, one lemma for each form of the pending list. -/
theorem stepRunsTheNextCommand : Obligations.StepRunsTheNextCommand :=
  ⟨fun _ _ _ _ hpending hdecode => step_of_decode_ok hpending hdecode,
    fun _ hpending => step_of_pending_nil hpending⟩

end Sys2Proof.Machine
end

section
/-! The registers and the voices of an active chip (20_memory.md R38, R39): a bus write waits in the queue, and the queue's own
commands touch nothing else of the chip. -/

namespace Sys2Proof.Machine

/-- What R38 and R39 keep from every other command: the register shadow and the voices. -/
def Chip.synthesis (c : Chip) : Vector Byte 25 × Voices := (c.regs, c.voices)

theorem Chip.synthesis_eq_iff {a b : Chip} :
    a.synthesis = b.synthesis ↔ a.regs = b.regs ∧ a.voices = b.voices :=
  Prod.mk_inj

@[simp] theorem popFront_synthesis (c : Chip) : (popFront c).synthesis = c.synthesis := rfl

/-- A full queue moves only the count of lost writes, a queue with room only grows. -/
@[simp] theorem enqueue_synthesis (s : State) (e : Entry) : (enqueue s e).chip.synthesis = s.chip.synthesis := by
  obtain ⟨-, h⟩ | ⟨-, h⟩ := enqueue_cases s e <;> rw [h] <;> rfl

/-- On an active chip REG_WRITE moves the latch and the baseline and enqueues; only an inert chip applies at once (R65). -/
theorem regWrite_synthesis_of_active {s : State} (hactive : active s.chip = true) (addr data : Byte) (cycle : Arg) :
    (regWrite addr data cycle s).chip.synthesis = s.chip.synthesis := by
  obtain ⟨-, h⟩ | ⟨-, h⟩ | ⟨hinert, -⟩ := regWrite_cases addr data cycle s
  · rw [h]; rfl
  · rw [h]; exact enqueue_synthesis _ _
  · exact absurd hactive (by simp [hinert])

/-- REG_READ answers from the chip and leaves it whole (R66). -/
@[simp] theorem regRead_chip (addr : Byte) (s : State) : (regRead addr s).chip = s.chip := by
  obtain ⟨b, h⟩ | h := regRead_cases addr s <;> rw [h] <;> rfl

/-- An outcome whose next state, if it is one, has the registers and the voices of `s`. -/
def KeepsSynthesis (s : State) (o : Out) : Prop :=
  ∀ t, o = .next t → t.chip.synthesis = s.chip.synthesis

theorem keepsSynthesis_next {s t : State} :
    KeepsSynthesis s (.next t) ↔ t.chip.synthesis = s.chip.synthesis :=
  ⟨fun h => h t rfl, fun h _ heq => by cases heq; exact h⟩

theorem execQEnqueue_keepsSynthesis (addr data : Byte) (delta : Arg) (s : State) :
    KeepsSynthesis s (execQEnqueue addr data delta s) := by
  unfold execQEnqueue
  split
  · exact keepsSynthesis_next.mpr rfl
  · exact keepsSynthesis_next.mpr (enqueue_synthesis s _)

theorem execQFront_keepsSynthesis (s : State) : KeepsSynthesis s (execQFront s) := by
  unfold execQFront
  split <;> exact keepsSynthesis_next.mpr rfl

/-- The five commands of `Spec.ReachesSynthesis` are refused by the premise; of the rest only a bus write needs the chip to be
active. -/
theorem exec_keepsSynthesis {i : Instr} {s : State} (hactive : active s.chip = true)
    (hother : ¬ Spec.ReachesSynthesis i) : KeepsSynthesis s (exec i s) := by
  obtain ⟨addr, data, cycle, hexec⟩ | ⟨addr, hexec⟩ | ⟨n, rfl⟩ | ⟨r, rfl⟩ | ⟨r, rfl⟩ | rfl | rfl | ⟨blob, rfl⟩ |
    ⟨addr, data, delta, rfl⟩ | rfl | rfl | rfl | rfl | ⟨rest, rfl⟩ | ⟨rest, rfl⟩ | ⟨rest, rfl⟩ := exec_cases i
  · rw [hexec]
    exact keepsSynthesis_next.mpr (regWrite_synthesis_of_active hactive addr data cycle)
  · rw [hexec]
    exact keepsSynthesis_next.mpr (congrArg Chip.synthesis (regRead_chip addr s))
  · exact absurd trivial hother
  · exact absurd trivial hother
  · exact absurd trivial hother
  · exact absurd trivial hother
  · exact keepsSynthesis_next.mpr rfl
  · exact absurd trivial hother
  · exact execQEnqueue_keepsSynthesis addr data delta s
  · exact keepsSynthesis_next.mpr (popFront_synthesis s.chip)
  · exact execQFront_keepsSynthesis s
  all_goals exact keepsSynthesis_next.mpr rfl

/-- Settles O59: the registers and the voices are a pair, kept by every command that R38 and R39 do not name. -/
theorem onlyTheseCommandsReachSynthesis : Obligations.OnlyTheseCommandsReachSynthesis :=
  fun _ _ t hactive hother h => Chip.synthesis_eq_iff.mp (exec_keepsSynthesis hactive hother t h)

end Sys2Proof.Machine
end

section
/-! Words and their fields (30_encoding.md R45, R50): a word is its fields put together, and whether a word is reserved is a
matter of its fields. -/

namespace Sys2Proof

/-! ## A word from its fields -/

/-- A word whose RSV is 0 is no more than its OP, ADDR and DATA. -/
theorem commandWord_fields {cw : CommandWord} (hrsv : rsvField cw = 0) :
    commandWord (opField cw) (addrField cw) (dataField cw) = cw := by
  have hhigh : cw.toNat / 2 ^ 20 = 0 := by rw [← rsvField_toNat, hrsv]; rfl
  apply BitVec.eq_of_toNat_eq
  rw [commandWord_toNat, opField_toNat, addrField_toNat, dataField_toNat]
  omega

theorem restField_append_opField (cw : CommandWord) : restField cw ++ opField cw = cw := by
  apply BitVec.eq_of_toNat_eq
  rw [reservedWord_toNat, opField_toNat, restField_toNat]
  omega

@[simp] theorem opField_append (rest : BitVec 28) (op : BitVec 4) : opField (rest ++ op) = op := by
  apply BitVec.eq_of_toNat_eq
  rw [opField_toNat, reservedWord_toNat]
  omega

@[simp] theorem restField_append (rest : BitVec 28) (op : BitVec 4) : restField (rest ++ op) = rest := by
  apply BitVec.eq_of_toNat_eq
  rw [restField_toNat, reservedWord_toNat]
  omega

/-! ## The spec's conditions on a word, by its fields -/

theorem opOf_eq_iff (cw : CommandWord) (op : BitVec 4) : Spec.opOf cw = op.toNat ↔ opField cw = op := by
  rw [Spec.opOf, ← opField_toNat, BitVec.toNat_inj]

theorem reservedWord_iff (cw : CommandWord) :
    Spec.ReservedWord cw ↔
      opField cw = 0 ∨ opField cw = 14 ∨ opField cw = 15 ∨ rsvField cw ≠ 0 ∨
        (addrField cw ≠ 0 ∧ opField cw ≠ 1 ∧ opField cw ≠ 2 ∧ opField cw ≠ 9) ∨
        (dataField cw ≠ 0 ∧ opField cw ≠ 1 ∧ opField cw ≠ 9) := by
  simp only [Spec.ReservedWord, Spec.opOf, Spec.addrOf, Spec.dataOf, ← opField_toNat, ← addrField_toNat,
    ← dataField_toNat, ← rsvField_toNat, BitVec.toNat_eq, ne_eq]
  rfl

theorem takesArg_iff (cw : CommandWord) : takesArg (opField cw) = true ↔ Spec.OpTakesArg cw := by
  have hlist (op : BitVec 4) : takesArg op = true ↔ op.toNat ∈ [1, 3, 4, 5, 9] := by revert op; decide
  rw [hlist, opField_toNat]
  rfl

end Sys2Proof
end

section
/-! The second level of decoding and the encoder are inverse to each other (30_encoding.md R49), row by row inside the register
space and class by class outside it. -/

namespace Sys2Proof

theorem addrIn_iff (lo hi addr : Byte) :
    addrIn lo hi addr = true ↔ lo.toNat ≤ addr.toNat ∧ addr.toNat ≤ hi.toNat := by
  simp [addrIn]

theorem class20_bounds {addr : Byte} (h : addrIn 0x20 0x3F addr = true) : 0x20 ≤ addr.toNat ∧ addr.toNat < 0x40 := by
  obtain ⟨hlo, hhi⟩ := (addrIn_iff _ _ _).mp h
  exact ⟨hlo, Nat.lt_succ_of_le hhi⟩

theorem class40_bounds {addr : Byte} (h : addrIn 0x40 0x7F addr = true) : 0x40 ≤ addr.toNat ∧ addr.toNat < 0x80 := by
  obtain ⟨hlo, hhi⟩ := (addrIn_iff _ _ _).mp h
  exact ⟨hlo, Nat.lt_succ_of_le hhi⟩

theorem class80_bounds {addr : Byte} (h : addrIn 0x80 0xFF addr = true) : 0x80 ≤ addr.toNat :=
  ((addrIn_iff _ _ _).mp h).1

/-- A byte is an address of the register space or lies in one of the three classes outside it. -/
theorem addr_cases (addr : Byte) :
    (∃ a : Fin 32, addr = Spec.addrByte a) ∨ addrIn 0x20 0x3F addr = true ∨ addrIn 0x40 0x7F addr = true ∨
      addrIn 0x80 0xFF addr = true := by
  by_cases hspace : addr.toNat < 32
  · exact .inl ⟨⟨addr.toNat, hspace⟩, by simp [Spec.addrByte]⟩
  · have := addr.isLt
    simp [addrIn_iff]
    omega

/-! ## REG_WRITE -/

theorem decodeRegWrite_addrByte (a : Fin 32) (data : Byte) (cycle : Arg) :
    decodeRegWrite (Spec.addrByte a) data cycle = Spec.regWriteOf a data cycle := by
  fin_cases a <;> rfl

theorem decodeRegWrite_class20 {addr : Byte} (h : addrIn 0x20 0x3F addr = true) (data : Byte) (cycle : Arg) :
    decodeRegWrite addr data cycle = .regWriteFrom20 addr data cycle := by
  obtain ⟨hlo, hhi⟩ := class20_bounds h
  rw [decodeRegWrite_of_ge _ _ _ (by omega), if_pos hhi]

theorem decodeRegWrite_class40 {addr : Byte} (h : addrIn 0x40 0x7F addr = true) (data : Byte) (cycle : Arg) :
    decodeRegWrite addr data cycle = .regWriteFrom40 addr data cycle := by
  obtain ⟨hlo, hhi⟩ := class40_bounds h
  rw [decodeRegWrite_of_ge _ _ _ (by omega), if_neg (by omega), if_pos hhi]

theorem decodeRegWrite_class80 {addr : Byte} (h : addrIn 0x80 0xFF addr = true) (data : Byte) (cycle : Arg) :
    decodeRegWrite addr data cycle = .regWriteFrom80 addr data cycle := by
  have hlo := class80_bounds h
  rw [decodeRegWrite_of_ge _ _ _ (by omega), if_neg (by omega), if_neg (by omega)]

theorem decodeRegWrite_spec (addr data : Byte) (cycle : Arg) :
    WellFormed (decodeRegWrite addr data cycle) = true ∧
      encode (decodeRegWrite addr data cycle) = ⟨commandWord 1 addr data, cycle, none⟩ := by
  obtain ⟨a, rfl⟩ | h | h | h := addr_cases addr
  · rw [decodeRegWrite_addrByte]
    fin_cases a <;> exact ⟨rfl, rfl⟩
  · rw [decodeRegWrite_class20 h]
    exact ⟨h, rfl⟩
  · rw [decodeRegWrite_class40 h]
    exact ⟨h, rfl⟩
  · rw [decodeRegWrite_class80 h]
    exact ⟨h, rfl⟩

/-! ## REG_READ -/

theorem decodeRegRead_addrByte (a : Fin 32) : decodeRegRead (Spec.addrByte a) = Spec.regReadOf a := by
  fin_cases a <;> rfl

theorem decodeRegRead_class20 {addr : Byte} (h : addrIn 0x20 0x3F addr = true) :
    decodeRegRead addr = .regReadFrom20 addr := by
  obtain ⟨hlo, hhi⟩ := class20_bounds h
  rw [decodeRegRead_of_ge _ (by omega), if_pos hhi]

theorem decodeRegRead_class40 {addr : Byte} (h : addrIn 0x40 0x7F addr = true) :
    decodeRegRead addr = .regReadFrom40 addr := by
  obtain ⟨hlo, hhi⟩ := class40_bounds h
  rw [decodeRegRead_of_ge _ (by omega), if_neg (by omega), if_pos hhi]

theorem decodeRegRead_class80 {addr : Byte} (h : addrIn 0x80 0xFF addr = true) :
    decodeRegRead addr = .regReadFrom80 addr := by
  have hlo := class80_bounds h
  rw [decodeRegRead_of_ge _ (by omega), if_neg (by omega), if_neg (by omega)]

theorem decodeRegRead_spec (addr : Byte) :
    WellFormed (decodeRegRead addr) = true ∧ encode (decodeRegRead addr) = ⟨commandWord 2 addr 0, 0, none⟩ := by
  obtain ⟨a, rfl⟩ | h | h | h := addr_cases addr
  · rw [decodeRegRead_addrByte]
    fin_cases a <;> exact ⟨rfl, rfl⟩
  · rw [decodeRegRead_class20 h]
    exact ⟨h, rfl⟩
  · rw [decodeRegRead_class40 h]
    exact ⟨h, rfl⟩
  · rw [decodeRegRead_class80 h]
    exact ⟨h, rfl⟩

end Sys2Proof
end

section
/-! Decoding what was encoded (30_encoding.md R45 to R49), by the format of the word. -/

namespace Sys2Proof

theorem decode_regWriteWord (addr data : Byte) (cycle : Arg) (blob : Option Machine.Blob) :
    decode ⟨commandWord 1 addr data, cycle, blob⟩ = .ok (decodeRegWrite addr data cycle) := by
  simp [decode]

theorem decode_regReadWord (addr : Byte) (arg : Arg) (blob : Option Machine.Blob) :
    decode ⟨commandWord 2 addr 0, arg, blob⟩ = .ok (decodeRegRead addr) := by
  simp [decode]

theorem decode_qEnqueueWord (addr data : Byte) (delta : Arg) (blob : Option Machine.Blob) :
    decode ⟨commandWord 9 addr data, delta, blob⟩ = .ok (.qEnqueue addr data delta) := by
  simp [decode]

@[simp] theorem noOperands_commandWord (op : BitVec 4) (i : Instr) : noOperands (commandWord op 0 0) i = .ok i := by
  simp [noOperands]

/-- The 64 rows of one address each evaluate through the second level of decoding; the classes of addresses are the three
places where well-formedness is needed. -/
theorem decode_encode {i : Instr} (h : WellFormed i = true) : decode (encode i) = .ok i := by
  cases i
  case regWriteFrom20 addr data cycle => rw [encode, decode_regWriteWord, decodeRegWrite_class20 h]
  case regWriteFrom40 addr data cycle => rw [encode, decode_regWriteWord, decodeRegWrite_class40 h]
  case regWriteFrom80 addr data cycle => rw [encode, decode_regWriteWord, decodeRegWrite_class80 h]
  case regReadFrom20 addr => rw [encode, decode_regReadWord, decodeRegRead_class20 h]
  case regReadFrom40 addr => rw [encode, decode_regReadWord, decodeRegRead_class40 h]
  case regReadFrom80 addr => rw [encode, decode_regReadWord, decodeRegRead_class80 h]
  case qEnqueue addr data delta => exact decode_qEnqueueWord addr data delta none
  case reserved0 rest | reservedE rest | reservedF rest => simp [encode, decode]
  case render | setOutputRate | setClockRate | reset | saveState | loadState | qDequeue | qFront | qSize | qTotal =>
    exact noOperands_commandWord _ _
  all_goals first
    | exact decode_regWriteWord _ _ _ none
    | exact decode_regReadWord _ 0 none

/-- Settles O1, one case for each format of the word. -/
theorem decodeOfEncode : Obligations.DecodeOfEncode := fun _ => decode_encode

end Sys2Proof
end

section
/-! What the decoder answers to any command (30_encoding.md R45 to R51): the one split by OP that the statements on decoded
words and on reserved words go through. -/

namespace Sys2Proof

/-- The word `cw` with those operands of `p` that the format of `op` takes (R45, R51). -/
def Command.takenBy (p : Command) (op : BitVec 4) (cw : CommandWord) : Command :=
  ⟨cw, if takesArg op then p.arg else 0, if op = 8 then p.blob else none⟩

/-- What is claimed of the decoder's answer to `p`: an instruction is well formed, encodes what its format takes of `p`, and
is a reserved row exactly if the word is reserved; a word that is rejected is reserved. -/
def DecodesRightly (p : Command) : Except DecodeError Instr → Prop
  | .ok i => WellFormed i = true ∧ encode i = p.takenBy (opField p.cw) p.cw ∧
      (Spec.ReservedWord p.cw ↔ Spec.ReservedRow i)
  | .error _ => Spec.ReservedWord p.cw

theorem reservedWord_encode_of_reservedRow {i : Instr} (h : Spec.ReservedRow i) : Spec.ReservedWord (encode i).cw := by
  rw [reservedWord_iff]
  obtain ⟨rest, rfl | rfl | rfl⟩ := h <;> simp [encode]

theorem decodesRightly_ok_of_not_reservedWord {p : Command} {i : Instr} (hword : ¬ Spec.ReservedWord p.cw)
    (hwf : WellFormed i = true) (henc : encode i = p.takenBy (opField p.cw) p.cw) : DecodesRightly p (.ok i) := by
  have hrow : ¬ Spec.ReservedRow i := by
    intro h
    have hencoded := reservedWord_encode_of_reservedRow h
    rw [henc] at hencoded
    exact hword hencoded
  exact ⟨hwf, henc, iff_of_false hword hrow⟩

/-! ## By format: CW-N, CW-0 and CW-B; CW-AD; CW-A; and the reserved OPs -/

section
variable {p : Command} {i : Instr} (op : BitVec 4) (hop : (opField p.cw).toNat = op.toNat)
include hop

theorem decodesRightly_noOperands (hformat : op ∉ [0, 1, 2, 9, 14, 15]) (hwf : WellFormed i = true)
    (henc : encode i = p.takenBy op (commandWord op 0 0)) : DecodesRightly p (noOperands p.cw i) := by
  obtain rfl := BitVec.eq_of_toNat_eq hop
  have hword : Spec.ReservedWord p.cw ↔ rsvField p.cw ≠ 0 ∨ addrField p.cw ≠ 0 ∨ dataField p.cw ≠ 0 := by
    rw [reservedWord_iff]
    simp only [List.mem_cons, List.not_mem_nil] at hformat
    tauto
  unfold noOperands
  split_ifs with hrsv haddr hdata
  · exact hword.mpr (.inl hrsv)
  · exact hword.mpr (.inr (.inl haddr))
  · exact hword.mpr (.inr (.inr hdata))
  · push Not at hrsv haddr hdata
    have hcw := commandWord_fields hrsv
    rw [haddr, hdata] at hcw
    rw [hcw] at henc
    exact decodesRightly_ok_of_not_reservedWord (by tauto) hwf henc

theorem decodesRightly_addrData (hformat : op = 1 ∨ op = 9) (hwf : WellFormed i = true)
    (henc : encode i = p.takenBy op (commandWord op (addrField p.cw) (dataField p.cw))) :
    DecodesRightly p (if rsvField p.cw = 0 then .ok i else .error .reservedBits) := by
  obtain rfl := BitVec.eq_of_toNat_eq hop
  have hword : Spec.ReservedWord p.cw ↔ rsvField p.cw ≠ 0 := by
    rw [reservedWord_iff]
    obtain h | h := hformat <;> simp [h]
  split_ifs with hrsv
  · rw [commandWord_fields hrsv] at henc
    exact decodesRightly_ok_of_not_reservedWord (by tauto) hwf henc
  · exact hword.mpr hrsv

theorem decodesRightly_addr (hformat : op = 2) (hwf : WellFormed i = true)
    (henc : encode i = p.takenBy op (commandWord op (addrField p.cw) 0)) :
    DecodesRightly p (if rsvField p.cw ≠ 0 then .error .reservedBits
      else if dataField p.cw ≠ 0 then .error .unusedData else .ok i) := by
  obtain rfl := BitVec.eq_of_toNat_eq hop
  have hword : Spec.ReservedWord p.cw ↔ rsvField p.cw ≠ 0 ∨ dataField p.cw ≠ 0 := by
    simp [reservedWord_iff, hformat]
  split_ifs with hrsv hdata
  · exact hword.mpr (.inl hrsv)
  · exact hword.mpr (.inr hdata)
  · push Not at hrsv hdata
    have hcw := commandWord_fields hrsv
    rw [hdata] at hcw
    rw [hcw] at henc
    exact decodesRightly_ok_of_not_reservedWord (by tauto) hwf henc

theorem decodesRightly_reserved (hformat : op = 0 ∨ op = 14 ∨ op = 15) (hwf : WellFormed i = true)
    (henc : encode i = p.takenBy op (restField p.cw ++ op)) (hrow : Spec.ReservedRow i) :
    DecodesRightly p (.ok i) := by
  obtain rfl := BitVec.eq_of_toNat_eq hop
  rw [restField_append_opField] at henc
  exact ⟨hwf, henc, iff_of_true ((reservedWord_iff p.cw).mpr (by tauto)) hrow⟩

end

/-! ## By OP -/

theorem decode_decodesRightly (p : Command) : DecodesRightly p (decode p) := by
  unfold decode
  split
  case h_1 hop => exact decodesRightly_reserved 0 hop (by decide) rfl rfl ⟨_, .inl rfl⟩
  case h_2 hop =>
    obtain ⟨hwf, henc⟩ := decodeRegWrite_spec (addrField p.cw) (dataField p.cw) p.arg
    exact decodesRightly_addrData 1 hop (by decide) hwf henc
  case h_3 hop =>
    obtain ⟨hwf, henc⟩ := decodeRegRead_spec (addrField p.cw)
    exact decodesRightly_addr 2 hop rfl hwf henc
  case h_4 hop => exact decodesRightly_noOperands 3 hop (by decide) rfl rfl
  case h_5 hop => exact decodesRightly_noOperands 4 hop (by decide) rfl rfl
  case h_6 hop => exact decodesRightly_noOperands 5 hop (by decide) rfl rfl
  case h_7 hop => exact decodesRightly_noOperands 6 hop (by decide) rfl rfl
  case h_8 hop => exact decodesRightly_noOperands 7 hop (by decide) rfl rfl
  case h_9 hop => exact decodesRightly_noOperands 8 hop (by decide) rfl rfl
  case h_10 hop => exact decodesRightly_addrData 9 hop (by decide) rfl rfl
  case h_11 hop => exact decodesRightly_noOperands 10 hop (by decide) rfl rfl
  case h_12 hop => exact decodesRightly_noOperands 11 hop (by decide) rfl rfl
  case h_13 hop => exact decodesRightly_noOperands 12 hop (by decide) rfl rfl
  case h_14 hop => exact decodesRightly_noOperands 13 hop (by decide) rfl rfl
  case h_15 hop => exact decodesRightly_reserved 14 hop (by decide) rfl rfl ⟨_, .inr (.inl rfl)⟩
  case h_16 =>
    have hlt := (opField p.cw).isLt
    have hop : (opField p.cw).toNat = 15 := by simp only [imp_false] at *; omega
    exact decodesRightly_reserved 15 hop (by decide) rfl rfl ⟨_, .inr (.inr rfl)⟩

theorem decodesRightly_of_decode_eq_ok {p : Command} {i : Instr} (h : decode p = .ok i) : DecodesRightly p (.ok i) :=
  h ▸ decode_decodesRightly p

theorem reservedWord_of_decode_eq_error {p : Command} {e : DecodeError} (h : decode p = .error e) :
    Spec.ReservedWord p.cw := by
  have hright := decode_decodesRightly p
  rwa [h] at hright

theorem recordedArg_of_takesArg {p : Command} (h : Spec.OpTakesArg p.cw) : recordedArg p = p.arg :=
  if_pos ((takesArg_iff p.cw).mpr h)

theorem recordedArg_of_not_takesArg {p : Command} (h : ¬ Spec.OpTakesArg p.cw) : recordedArg p = 0 :=
  if_neg (mt (takesArg_iff p.cw).mp h)

/-- Settles O2: the encoding is the command less the operands that its format does not take. -/
theorem encodeOfDecode : Obligations.EncodeOfDecode := by
  intro p i hdecode
  obtain ⟨hwf, henc, -⟩ := decodesRightly_of_decode_eq_ok hdecode
  rw [henc]
  exact ⟨hwf, rfl, recordedArg_of_takesArg, fun hop => if_pos ((opOf_eq_iff p.cw 8).mp hop)⟩

/-- Settles O5: each word's fields are evaluated, and the decoder goes by them. -/
theorem listedWordsDecode : Obligations.ListedWordsDecode :=
  ⟨rfl, rfl, rfl, rfl, rfl, rfl, rfl, rfl, rfl, rfl⟩

end Sys2Proof
end

section
/-! Reserved words at the step (30_encoding.md R50; 60_exceptions.md R130 to R132): with a row of the table or without one, a
reserved word is recorded and nothing else. -/

namespace Sys2Proof.Machine

/-! ## The three rows -/

theorem exec_reserved0 (rest : BitVec 28) (s : State) :
    exec (.reserved0 rest) s = .next (raiseFault s .reservedCommand (rest ++ 0#4) 0) := rfl

theorem exec_reservedE (rest : BitVec 28) (s : State) :
    exec (.reservedE rest) s = .next (raiseFault s .reservedCommand (rest ++ 14#4) 0) := rfl

theorem exec_reservedF (rest : BitVec 28) (s : State) :
    exec (.reservedF rest) s = .next (raiseFault s .reservedCommand (rest ++ 15#4) 0) := rfl

/-- Settles O4, one lemma for each row; `raiseFault` moves the fault record and the outcome alone. -/
theorem reservedRowsRecordTheirWord : Obligations.ReservedRowsRecordTheirWord :=
  fun s rest => ⟨exec_reserved0 rest s, exec_reservedE rest s, exec_reservedF rest s⟩

/-- A reserved row records the command that it encodes. -/
theorem exec_of_reservedRow {i : Instr} (h : Spec.ReservedRow i) (s : State) :
    exec i s = .next (raiseFault s .reservedCommand (encode i).cw (encode i).arg) := by
  obtain ⟨rest, rfl | rfl | rfl⟩ := h
  · exact exec_reserved0 rest s
  · exact exec_reservedE rest s
  · exact exec_reservedF rest s

/-! ## Every reserved word -/

theorem step_of_decode_error {s : State} {p : Command} {rest : List Command} {e : DecodeError}
    (hpending : s.pending = p :: rest) (hdecode : decode p = .error e) :
    step s = .next (rejectCommand { s with pending := rest } p) := by
  simp [step, fetch, hpending, hdecode]

/-- The reserved rows answer as the rejected words do. -/
theorem step_of_reservedWord {s : State} {p : Command} {rest : List Command} (hpending : s.pending = p :: rest)
    (hword : Spec.ReservedWord p.cw) : step s = .next (rejectCommand { s with pending := rest } p) := by
  cases hdecode : decode p with
  | ok i =>
    obtain ⟨-, henc, hrow⟩ := decodesRightly_of_decode_eq_ok hdecode
    rw [step_of_decode_ok hpending hdecode, exec_of_reservedRow (hrow.mp hword), henc]
    rfl
  | error e => exact step_of_decode_error hpending hdecode

theorem decode_of_not_reservedWord {p : Command} (hword : ¬ Spec.ReservedWord p.cw) :
    ∃ i, decode p = .ok i ∧ ¬ Spec.ReservedRow i := by
  cases hdecode : decode p with
  | ok i =>
    obtain ⟨-, -, hrow⟩ := decodesRightly_of_decode_eq_ok hdecode
    exact ⟨i, rfl, mt hrow.mpr hword⟩
  | error e => exact absurd (reservedWord_of_decode_eq_error hdecode) hword

/-- Settles O3: the recorded ARG is `recordedArg`, whichever way the word is reserved. -/
theorem reservedWordsFault : Obligations.ReservedWordsFault := by
  refine ⟨fun s p rest arg hpending hword htakes hnot => ?_, fun p => decode_of_not_reservedWord⟩
  have harg : recordedArg p = arg := by
    by_cases h : Spec.OpTakesArg p.cw
    · rw [recordedArg_of_takesArg h, htakes h]
    · rw [recordedArg_of_not_takesArg h, hnot h]
  rw [step_of_reservedWord hpending hword, rejectCommand, harg]
  rfl

end Sys2Proof.Machine
end

section
/-! The queue commands (40_queue.md R57, R60 to R64), one equation for each outcome. -/

namespace Sys2Proof.Machine

/-! ## Q_ENQUEUE -/

theorem exec_qEnqueue_of_neg {delta : Arg} (hneg : delta.toInt < 0) (addr data : Byte) (s : State) :
    exec (.qEnqueue addr data delta) s = .next (raiseFault s .negativeDelta (commandWord 9 addr data) delta) :=
  if_pos hneg

theorem exec_qEnqueue_of_nonneg {delta : Arg} (hnonneg : 0 ≤ delta.toInt) (addr data : Byte) (s : State) :
    exec (.qEnqueue addr data delta) s = .next ((enqueue s ⟨addr, data, delta.toInt.toNat⟩).finish .none) :=
  if_neg (Int.not_lt.mpr hnonneg)

theorem enqueue_of_full {s : State} (hfull : s.chip.queue.length = s.chip.qcap) (e : Entry) :
    enqueue s e = { s with
      chip := { s.chip with overflowCount := s.chip.overflowCount + 1 }
      diag := s.diag ++ [.queueOverflow e.addr e.value] } :=
  ((enqueue_cases s e).resolve_right fun ⟨hroom, _⟩ => hroom hfull).2

theorem enqueue_of_room {s : State} (hroom : s.chip.queue.length ≠ s.chip.qcap) (e : Entry) :
    enqueue s e = { s with chip := { s.chip with queue := s.chip.queue ++ [e] } } :=
  ((enqueue_cases s e).resolve_left fun ⟨hfull, _⟩ => hroom hfull).2

/-- Settles O40: the sign of the delta decides the fault, then the room in the queue decides the drop. -/
theorem queueEnqueue : Obligations.QueueEnqueue := by
  intro addr d delta s
  refine ⟨fun hneg => ?_, fun hnonneg hroom => ?_, fun hnonneg hfull => ?_⟩
  · exact exec_qEnqueue_of_neg hneg addr d s
  · rw [exec_qEnqueue_of_nonneg hnonneg, enqueue_of_room hroom]
    rfl
  · rw [exec_qEnqueue_of_nonneg hnonneg, enqueue_of_full hfull]
    rfl

/-! ## Q_DEQUEUE -/

theorem exec_qDequeue (s : State) : exec .qDequeue s = .next ((s.setChip (popFront s.chip)).finish .none) := rfl

theorem popFront_of_nil {c : Chip} (hempty : c.queue = []) : popFront c = c := by
  rw [popFront, hempty, List.tail_nil, ← hempty]

theorem popFront_of_cons {c : Chip} {e : Entry} {rest : List Entry} (hfront : c.queue = e :: rest) :
    popFront c = { c with queue := rest } := by
  rw [popFront, hfront, List.tail_cons]

/-- Settles O41. -/
theorem queueDequeue : Obligations.QueueDequeue := by
  refine fun s => ⟨fun hempty => ?_, fun e rest hfront => ?_⟩
  · rw [exec_qDequeue, popFront_of_nil hempty]
    rfl
  · rw [exec_qDequeue, popFront_of_cons hfront]
    rfl

/-! ## Q_FRONT -/

theorem exec_qFront_of_nil {s : State} (hempty : s.chip.queue = []) :
    exec .qFront s = .next (raiseFault s .frontEmpty (commandWord 0xB 0 0) 0) := by
  simp only [exec, execQFront, hempty]

theorem exec_qFront_of_cons {s : State} {e : Entry} {rest : List Entry} (hfront : s.chip.queue = e :: rest) :
    exec .qFront s = .next (s.finish (.entry e)) := by
  simp only [exec, execQFront, hfront]

/-- Settles O42: the word the fault records, `commandWord 0xB 0 0`, evaluates to 0x0000000B. -/
theorem queueFront : Obligations.QueueFront :=
  fun _ => ⟨fun hempty => exec_qFront_of_nil hempty, fun _ _ hfront => exec_qFront_of_cons hfront⟩

/-! ## Q_SIZE and Q_TOTAL -/

theorem exec_qSize (s : State) :
    exec .qSize s = .next (s.finish (value64 s.chip.queue.length (Config.wideSize s.chip.queue.length))) := rfl

theorem exec_qTotal (s : State) :
    exec .qTotal s =
      .next (s.finish (value64 (totalDelta s.chip.queue) (Config.wideTotal (s.chip.queue.map Entry.delta)))) := rfl

/-- Settles O43: both numbers go through the one 64-bit form of R47. -/
theorem queueSizeAndTotal : Obligations.QueueSizeAndTotal := by
  intro s
  obtain ⟨size, hsize, hsizeFits, -⟩ := value64_cases s.chip.queue.length (Config.wideSize s.chip.queue.length)
  obtain ⟨total, htotal, htotalFits, -⟩ :=
    value64_cases (totalDelta s.chip.queue) (Config.wideTotal (s.chip.queue.map Entry.delta))
  refine ⟨size, total, ?_, hsizeFits, ?_, htotalFits⟩
  · rw [exec_qSize, hsize]
    rfl
  · rw [exec_qTotal, htotal]
    rfl

end Sys2Proof.Machine
end

section
/-! A sound chip (40_queue.md R56, 44_envelope.md R111, 10_state.md R24): power-on makes one, and every shared operation,
command and step keeps one. -/

namespace Sys2Proof.Machine

section
variable {c : Chip}

/-! ## Power-on and RESET -/

/-- Three equal voices read as that voice. -/
theorem voiceAt_of_voices_eq {x : Voice} (h : c.voices = ⟨x, x, x⟩) (v : VoiceId) : voiceAt c v = x := by
  rw [voiceAt, h]
  fin_cases v <;> rfl

/-- A chip whose queue is empty, whose table indices are those of one voice and whose fraction is 0 needs no more than a
capacity and a valid index. -/
theorem sound_of_cleared {x : Voice} (hcap : 0 < c.qcap) (hqueue : c.queue = []) (hvoices : c.voices = ⟨x, x, x⟩)
    (hexp : x.exp = 0) (hfrac : c.frac = 0) : c.Sound where
  capacity_pos := hcap
  queue_within := by simp [hqueue]
  index_within v := by simp [voiceAt_of_voices_eq hvoices, hexp]
  frac_within hclock := by omega
  frac_unset _ := hfrac

theorem initial_sound (variant : Variant) {qcap : Nat} (hcap : 0 < qcap) : (Chip.initial variant qcap).Sound :=
  sound_of_cleared hcap rfl rfl rfl rfl

theorem resetChip_sound (h : c.Sound) : (resetChip c).Sound :=
  sound_of_cleared h.capacity_pos rfl rfl rfl rfl

/-! ## The queue -/

theorem popFront_sound (h : c.Sound) : (popFront c).Sound :=
  { h with queue_within := c.queue.tail_sublist.length_le.trans h.queue_within }

theorem decFront_queue_length (c : Chip) (x : Nat) : (decFront c x).queue.length = c.queue.length := by
  unfold decFront
  split
  · rfl
  · next hq => simp [hq]

theorem decFront_frame (c : Chip) (x : Nat) : decFront c x = { c with queue := (decFront c x).queue } := by
  unfold decFront
  split <;> rfl

theorem decFront_sound (h : c.Sound) (x : Nat) : (decFront c x).Sound := by
  rw [decFront_frame]
  exact { h with queue_within := (decFront_queue_length c x).trans_le h.queue_within }

/-- An entry is appended only where the queue is not at its capacity. -/
theorem enqueue_sound {s : State} (h : s.chip.Sound) (e : Entry) : (enqueue s e).chip.Sound := by
  obtain ⟨-, heq⟩ | ⟨hroom, heq⟩ := enqueue_cases s e
  · rw [heq]
    exact { h with }
  · rw [heq]
    have hgrown : (s.chip.queue ++ [e]).length ≤ s.chip.qcap := by
      have := h.queue_within
      simp
      omega
    exact { h with queue_within := hgrown }

/-! ## The tick -/

@[simp] theorem advance_exp (c : Chip) (v : VoiceId) (x : Voice) : (advance c v x).exp = x.exp := by
  rw [advance_frame]

@[simp] theorem syncVoice_exp (c : Chip) (wrap : VoiceId → Bool) (snap : VoiceId → Phase) (d : VoiceId) (x : Voice) :
    (syncVoice c wrap snap d x).exp = x.exp := by
  rw [syncVoice_frame]

@[simp] theorem filterTick_exp (c : Chip) (v : VoiceId) (x : Voice) : (filterTick c v x).exp = x.exp := by
  rw [filterTick_frame]

/-- Of the passes of a tick only the envelope step moves a table index, and not past the end of the table (R108). -/
theorem tickChip_exp_le (v : VoiceId) (h : (voiceAt c v).exp ≤ lutK c.variant) :
    (voiceAt (tickChip c) v).exp ≤ lutK c.variant := by
  rw [voiceAt_tickChip, filterTick_exp, voiceAt_envPass]
  apply lutTick_exp_le
  rwa [envStateTick_exp, voiceAt_syncPass, syncVoice_exp, voiceAt_advancePass, advance_exp]

theorem tickChip_sound (h : c.Sound) : (tickChip c).Sound :=
  { h with index_within := fun v => tickChip_exp_le v (h.index_within v) }

theorem ticks_sound (h : c.Sound) (k : Nat) : (ticks k c).2.Sound := by
  induction k generalizing c with
  | zero => exact h
  | succ k ih => exact ih (tickChip_sound h)

/-! ## APPLY and FLUSH -/

theorem applyWrite_sound (h : c.Sound) (a d : Byte) : (applyWrite a d c).Sound := by
  have hindex (v : VoiceId) : (voiceAt (applyWrite a d c) v).exp ≤ lutK c.variant := by
    have := h.index_within v
    obtain hkept | hzeroed := applyWrite_exp a d c v <;> omega
  rw [applyWrite_frame] at hindex ⊢
  exact { h with index_within := hindex }

theorem applyFront_sound (h : c.Sound) (e : Entry) : (applyFront e c).Sound :=
  applyWrite_sound (popFront_sound h) e.addr e.value

theorem flushLoop_sound (q : List Entry) (h : c.Sound) : (flushLoop q c).Sound := by
  induction q generalizing c with
  | nil => exact h
  | cons e rest ih => exact ih (applyFront_sound h e)

/-- Without a fraction a chip stays sound under any clock rate. -/
theorem Chip.Sound.withClockRate (h : c.Sound) (rate : Nat) : Sound { c with clockRate := rate, frac := 0 } :=
  { h with
    frac_within := Nat.pos_of_ne_zero
    frac_unset := fun _ => rfl }

theorem flush_sound (h : c.Sound) : (flush c).Sound :=
  (flushLoop_sound c.queue h).withClockRate _

theorem setOutputRate_sound {s : State} (h : s.chip.Sound) (r : Int) : (setOutputRate r s).chip.Sound := by
  unfold setOutputRate
  split <;> exact { flush_sound h with }

/-- The flush before a change of the clock rate has zeroed the fraction (46_control.md R123). -/
theorem setClockRate_sound {s : State} (h : s.chip.Sound) (r : Int) : (setClockRate r s).chip.Sound := by
  unfold setClockRate
  split <;> exact (flush_sound h).withClockRate _

/-! ## RENDER -/

theorem active_iff (c : Chip) : active c = true ↔ 0 < c.sampleRate ∧ 0 < c.clockRate := by
  simp [active]

theorem backlogLoop_sound (q : List Entry) (excess : Int) (h : c.Sound) : (backlogLoop q excess c).Sound := by
  induction q generalizing c excess with
  | nil => exact h
  | cons e rest ih =>
    unfold backlogLoop
    split
    · exact ih _ (applyFront_sound h e)
    · exact h

theorem backlog_sound (h : c.Sound) (n : Nat) : (backlog n c).Sound :=
  backlogLoop_sound c.queue _ h

@[simp] theorem applyFront_clockRate (e : Entry) (c : Chip) : (applyFront e c).clockRate = c.clockRate :=
  applyWrite_clockRate e.addr e.value (popFront c)

@[simp] theorem replayWithin_clockRate (t : Nat) (e : Entry) (c : Chip) :
    (replayWithin t e c).clockRate = c.clockRate :=
  applyFront_clockRate e c

/-- The remainder of a time by the clock rate is below one sample, where there is a clock rate. -/
theorem replayWithin_sound (h : c.Sound) (hclock : 0 < c.clockRate) (t : Nat) (e : Entry) :
    (replayWithin t e c).Sound :=
  { applyFront_sound h e with
    frac_within := fun _ => (Nat.mod_lt t hclock).trans_eq (applyFront_clockRate e c).symm
    frac_unset := fun hunset => absurd ((applyFront_clockRate e c).symm.trans hunset) hclock.ne' }

theorem replay_sound (q : List Entry) (rem : Nat) (h : c.Sound) (hclock : 0 < c.clockRate) :
    (replay q rem c).2.Sound := by
  induction q generalizing c rem with
  | nil =>
    cases rem with
    | zero => exact h
    | succ n => exact { ticks_sound h (n + 1) with }
  | cons e rest ih =>
    cases rem with
    | zero => exact h
    | succ n =>
      rw [replay_cons_succ]
      split
      · have hticks := ticks_sound h (frontSamples c e)
        exact ih _ (replayWithin_sound hticks (by simpa) _ e) (by simpa)
      · exact decFront_sound (ticks_sound h (n + 1)) _

theorem renderActive_sound (h : c.Sound) (hclock : 0 < c.clockRate) (n : Nat) : (renderActive n c).2.Sound :=
  replay_sound _ n (backlog_sound h n) (by simpa)

theorem render_sound {s : State} (h : s.chip.Sound) (n : Int) : (render n s).chip.Sound := by
  unfold render
  split
  · exact h
  · split
    · next hactive => exact renderActive_sound h ((active_iff s.chip).mp hactive).2 n.toNat
    · exact h

/-! ## LOAD_STATE -/

theorem fitsUnsigned_iff (n : Nat) (x : Int) : fitsUnsigned n x = true ↔ Spec.Unsigned n x := by
  simp [fitsUnsigned, Spec.Unsigned]

theorem fitsSigned_iff (n : Nat) (x : Int) : fitsSigned n x = true ↔ Spec.Signed n x := by
  simp [fitsSigned, Spec.Signed]

theorem blobVoice_valid_iff (variant : Variant) (x : BlobVoice) :
    x.valid variant = true ↔ Spec.Unsigned 32 x.acc ∧ Spec.Unsigned 23 x.lfsr ∧ Spec.Unsigned 31 x.E ∧
      (0 ≤ x.exp ∧ x.exp ≤ lutK variant) ∧ Spec.Signed 31 x.lo ∧ Spec.Signed 31 x.ref := by
  simp [BlobVoice.valid, fitsUnsigned_iff, fitsSigned_iff, and_assoc]

theorem blobEntry_valid_iff (e : BlobEntry) :
    e.valid = true ↔ Spec.Unsigned 8 e.addr ∧ Spec.Unsigned 8 e.value ∧ 0 ≤ e.delta := by
  simp [BlobEntry.valid, fitsUnsigned_iff, and_assoc]

theorem fracValid_iff (b : Blob) :
    b.fracValid = true ↔
      0 ≤ b.frac ∧ (0 < b.clockRate → b.frac < b.clockRate) ∧ (¬ 0 < b.clockRate → b.frac = 0) := by
  by_cases hclock : 0 < b.clockRate <;> simp [Blob.fracValid, hclock]

/-- The check of LOAD_STATE is the spec's `VALID(b)`, field by field (46_control.md R126). -/
theorem blob_valid_iff (b : Blob) (c : Chip) : b.valid c = true ↔ Spec.ValidBlob b c := by
  simp only [Blob.valid, Bool.and_eq_true, decide_eq_true_eq, and_assoc]
  simp only [List.all_eq_true, Int.ofNat_le, fitsUnsigned_iff, fitsSigned_iff, blobVoice_valid_iff, blobEntry_valid_iff,
    fracValid_iff]
  constructor
  · rintro ⟨hvariant, hqcap, hwithin, hentries, hthree, hvoices, hcount, hregs, hlatch, hfrac, hsample, hclock, hcycle,
      hoverflow⟩
    exact ⟨hvariant, hqcap, hwithin, hentries, ⟨hthree, hvoices⟩, ⟨hcount, hregs⟩, hlatch, hfrac, ⟨hsample, hclock⟩,
      hcycle, hoverflow⟩
  · rintro ⟨hvariant, hqcap, hwithin, hentries, ⟨hthree, hvoices⟩, ⟨hcount, hregs⟩, hlatch, hfrac, ⟨hsample, hclock⟩,
      hcycle, hoverflow⟩
    exact ⟨hvariant, hqcap, hwithin, hentries, hthree, hvoices, hcount, hregs, hlatch, hfrac, hsample, hclock, hcycle,
      hoverflow⟩

/-- A voice read from a blob's list is one of the list's, or the initial voice where the list is too short. -/
theorem voicesOf_at (l : List BlobVoice) (v : VoiceId) :
    (voicesOf l).at v = ((l[v.val]?).map BlobVoice.toVoice).getD Voice.initial := by
  fin_cases v <;> rfl

theorem voicesOf_exp_le {k : Nat} {l : List BlobVoice} (h : ∀ x ∈ l, x.exp ≤ k) (v : VoiceId) :
    ((voicesOf l).at v).exp ≤ k := by
  rw [voicesOf_at]
  cases hx : l[v.val]? with
  | none => exact Nat.zero_le k
  | some x => exact Int.toNat_le.mpr (h x (List.mem_of_getElem? hx))

/-- `VALID(b)` asks of a blob what soundness asks of a chip; its capacity is the one of the sound chip that loads it. -/
theorem toChip_sound {b : Blob} (h : c.Sound) (hvalid : Spec.ValidBlob b c) : b.toChip.Sound := by
  obtain ⟨hfrac, hset, hunset⟩ := hvalid.frac
  obtain ⟨-, hvoices⟩ := hvalid.voices
  have hclock := hvalid.rates.2
  have hcap : b.qcap.toNat = c.qcap := by rw [hvalid.qcap, Int.toNat_natCast]
  have hindex (x : BlobVoice) (hx : x ∈ b.voices) : x.exp ≤ lutK b.variant := by
    obtain ⟨-, -, -, ⟨-, hexp⟩, -⟩ := hvoices x hx
    rwa [hvalid.variant]
  exact
    { capacity_pos := h.capacity_pos.trans_eq hcap.symm
      queue_within := by simpa [Blob.toChip, hcap] using hvalid.queue_within
      index_within := voicesOf_exp_le hindex
      frac_within := by
        simp only [Blob.toChip]
        omega
      frac_unset := by
        simp only [Blob.toChip]
        omega }

end

/-! ## The commands -/

/-- An outcome whose next state, if it is one, has a sound chip. -/
def SoundOutcome (o : Out) : Prop :=
  ∀ t, o = .next t → t.chip.Sound

theorem soundOutcome_next {t : State} : SoundOutcome (.next t) ↔ t.chip.Sound :=
  ⟨fun h => h t rfl, fun h _ heq => by cases heq; exact h⟩

section
variable {s : State}

/-- The latch and the baseline are no part of soundness. -/
theorem regWrite_sound (h : s.chip.Sound) (addr data : Byte) (cycle : Arg) :
    (regWrite addr data cycle s).chip.Sound := by
  obtain ⟨-, heq⟩ | ⟨-, heq⟩ | ⟨-, heq⟩ := regWrite_cases addr data cycle s <;> rw [heq]
  · exact h
  · have hmoved : Chip.Sound { s.chip with latch := data, lastWriteCycle := cycle } := { h with }
    exact enqueue_sound hmoved (writeEntry s.chip addr data cycle)
  · have hlatched : Chip.Sound { s.chip with latch := data } := { h with }
    exact { applyWrite_sound hlatched addr data with }

theorem execLoadState_sound (h : s.chip.Sound) (blob : Option Blob) : SoundOutcome (execLoadState blob s) := by
  cases blob with
  | none => exact soundOutcome_next.mpr h
  | some b =>
    by_cases hvalid : b.valid s.chip = true
    · rw [execLoadState, if_pos hvalid]
      exact soundOutcome_next.mpr (toChip_sound h ((blob_valid_iff b s.chip).mp hvalid))
    · rw [execLoadState, if_neg hvalid]
      exact soundOutcome_next.mpr h

theorem exec_qEnqueue_sound (h : s.chip.Sound) (addr data : Byte) (delta : Arg) :
    SoundOutcome (exec (.qEnqueue addr data delta) s) := by
  obtain hneg | hnonneg := lt_or_ge delta.toInt 0
  · rw [exec_qEnqueue_of_neg hneg]
    exact soundOutcome_next.mpr h
  · rw [exec_qEnqueue_of_nonneg hnonneg]
    exact soundOutcome_next.mpr (enqueue_sound h _)

theorem exec_qFront_sound (h : s.chip.Sound) : SoundOutcome (exec .qFront s) := by
  cases hqueue : s.chip.queue with
  | nil =>
    rw [exec_qFront_of_nil hqueue]
    exact soundOutcome_next.mpr h
  | cons e rest =>
    rw [exec_qFront_of_cons hqueue]
    exact soundOutcome_next.mpr h

theorem exec_sound (h : s.chip.Sound) (i : Instr) : SoundOutcome (exec i s) := by
  obtain ⟨addr, data, cycle, hexec⟩ | ⟨addr, hexec⟩ | ⟨n, rfl⟩ | ⟨r, rfl⟩ | ⟨r, rfl⟩ | rfl | rfl | ⟨blob, rfl⟩ |
    ⟨addr, data, delta, rfl⟩ | rfl | rfl | rfl | rfl | ⟨rest, rfl⟩ | ⟨rest, rfl⟩ | ⟨rest, rfl⟩ := exec_cases i
  · rw [hexec]
    exact soundOutcome_next.mpr (regWrite_sound h addr data cycle)
  · rw [hexec]
    exact soundOutcome_next.mpr (by rwa [regRead_chip])
  · exact soundOutcome_next.mpr (render_sound h n.toInt)
  · exact soundOutcome_next.mpr (setOutputRate_sound h r.toInt)
  · exact soundOutcome_next.mpr (setClockRate_sound h r.toInt)
  · exact soundOutcome_next.mpr (resetChip_sound h)
  · exact soundOutcome_next.mpr h
  · exact execLoadState_sound h blob
  · exact exec_qEnqueue_sound h addr data delta
  · exact soundOutcome_next.mpr (popFront_sound h)
  · exact exec_qFront_sound h
  all_goals exact soundOutcome_next.mpr h

/-! ## The step -/

/-- Waiting and refusing a word both leave the chip; a decoded command keeps it sound. -/
theorem step_sound (h : s.chip.Sound) : SoundOutcome (step s) := by
  obtain ⟨-, hstep⟩ | ⟨p, rest, i, -, -, hstep⟩ | ⟨p, rest, e, -, -, hstep⟩ := step_cases s <;> rw [hstep]
  · exact soundOutcome_next.mpr h
  · exact exec_sound (s := { s with pending := rest }) h i
  · exact soundOutcome_next.mpr h

end

/-- Settles O54: every shared operation keeps each field of soundness, so every command does, so the step does. -/
theorem stepKeepsTheChipSound : Obligations.StepKeepsTheChipSound :=
  fun _ t hsound hstep => step_sound hsound t hstep

/-- Settles O53: the capacity at power-on is a successor. -/
theorem resetIsSound : Obligations.ResetIsSound :=
  initial_sound Config.powerOnVariant (Nat.succ_pos Config.queueCapacityLessOne)

end Sys2Proof.Machine
end

section
/-! APPLY (41_bus_interface.md R67 to R76): what each address does to the registers and the voices, and that the effect depends
on nothing else of the chip. -/

namespace Sys2Proof.Machine

/-! ## The dispatch by address -/

theorem applyWrite_of_ge {a : Byte} (hout : 0x19 ≤ a.toNat) (d : Byte) (c : Chip) : applyWrite a d c = c := by
  unfold applyWrite
  split
  case h_26 => rfl
  all_goals omega

/-- Settles O16: the dispatch names no address from 0x19 up. -/
theorem applyOutsideTheRegistersIsNothing : Obligations.ApplyOutsideTheRegistersIsNothing :=
  fun _ d c hout => applyWrite_of_ge hout d c

/-- Twenty-one registers have no effect beyond their byte (R68, R69, R71 to R74). -/
theorem applyWrite_of_plain {a : Fin 25} (hplain : a.val ∉ [4, 11, 18, 24]) (d : Byte) (c : Chip) :
    applyWrite (BitVec.ofNat 8 a) d c = setReg c a d := by
  -- the second alternative is for the four addresses that `hplain` excludes
  fin_cases a <;> first | rfl | simp at hplain

/-- Settles O13: the 21 registers left are the ones with no effect beyond their byte. -/
theorem applyStoresTheByte : Obligations.ApplyStoresTheByte :=
  fun _ d c hplain => applyWrite_of_plain hplain d c

theorem applyWrite_ctrl (v : VoiceId) (d : Byte) (c : Chip) :
    applyWrite (BitVec.ofNat 8 (7 * v.val + 4)) d c = applyCtrl v d c := by
  fin_cases v <;> rfl

theorem applyWrite_modeVol (d : Byte) (c : Chip) : applyWrite 0x18 d c = applyModeVol d c := rfl

/-! ## CTRL(v) and its gate event -/

section
variable {old : Bool} {x : Voice}

theorem gateEvent_on_attacks (h : old = false ∨ x.env = .sustain ∨ x.env = .idle) :
    gateEvent old true x = { x with env := .attack, exp := 0 } :=
  if_pos h

theorem gateEvent_on_stays (hold : old = true) (hsustain : x.env ≠ .sustain) (hidle : x.env ≠ .idle) :
    gateEvent old true x = x := by
  have hquiet : ¬ (old = false ∨ x.env = .sustain ∨ x.env = .idle) := by simp [hold, hsustain, hidle]
  exact if_neg hquiet

theorem gateEvent_off_releases (h : x.env = .attack ∨ x.env = .decay ∨ x.env = .sustain) :
    gateEvent old false x = { x with env := .release } := by
  obtain h | h | h := h <;> simp [gateEvent, h]

theorem gateEvent_off_stays (h : x.env = .release ∨ x.env = .idle) : gateEvent old false x = x := by
  obtain h | h := h <;> simp [gateEvent, h]

end

theorem applyCtrl_frame (v : VoiceId) (d : Byte) (c : Chip) :
    applyCtrl v d c =
      { c with regs := c.regs.set (voiceAddr v 4) d, voices := (applyCtrl v d c).voices } := rfl

theorem voiceAt_applyCtrl_same (v : VoiceId) (d : Byte) (c : Chip) :
    voiceAt (applyCtrl v d c) v = gateEvent (gate c v) (d.getLsbD 0) (voiceAt c v) := by
  rw [applyCtrl, voiceAt_updateVoice, if_pos rfl, voiceAt_setReg]

theorem voiceAt_applyCtrl_other {u v : VoiceId} (hother : u ≠ v) (d : Byte) (c : Chip) :
    voiceAt (applyCtrl v d c) u = voiceAt c u := by
  rw [applyCtrl, voiceAt_updateVoice, if_neg hother, voiceAt_setReg]

/-- Settles O14: `applyCtrl` stores the byte and hands voice v to `gateEvent`, whose four outcomes are the four clauses. -/
theorem applyCtrlMakesTheGateEvent : Obligations.ApplyCtrlMakesTheGateEvent := by
  intro v d c old x c'
  have hctrl : c' = applyCtrl v d c := applyWrite_ctrl v d c
  have hvoice : voiceAt c' v = gateEvent old (d.getLsbD 0) x := by rw [hctrl, voiceAt_applyCtrl_same]; rfl
  refine ⟨?frame, fun u hother => ?other, fun hon h => ?attacks, fun hon hold hsustain hidle => ?stays,
    fun hoff h => ?releases, fun hoff h => ?rests⟩
  case frame => rw [hctrl]; exact applyCtrl_frame v d c
  case other => rw [hctrl, voiceAt_applyCtrl_other hother]
  case attacks => rw [hvoice, hon, gateEvent_on_attacks h]
  case stays => rw [hvoice, hon, gateEvent_on_stays hold hsustain hidle]
  case releases => rw [hvoice, hoff, gateEvent_off_releases h]
  case rests => rw [hvoice, hoff, gateEvent_off_stays h]

/-! ## MODE_VOL and the filter type -/

/-- LP, BP and HP are bits 4, 5 and 6 of MODE_VOL. -/
theorem filterTypeChanged_eq_false_iff (old new : Byte) :
    filterTypeChanged old new = false ↔
      old.getLsbD 4 = new.getLsbD 4 ∧ old.getLsbD 5 = new.getLsbD 5 ∧ old.getLsbD 6 = new.getLsbD 6 := by
  rw [filterTypeChanged, bne_eq_false_iff_eq, BitVec.eq_of_getLsbD_eq_iff]
  simp only [BitVec.getLsbD_extractLsb', BitVec.getLsbD_xor]
  constructor
  · intro h
    exact ⟨by simpa using h 0 (by omega), by simpa using h 1 (by omega), by simpa using h 2 (by omega)⟩
  · rintro ⟨h4, h5, h6⟩ i hi
    interval_cases i <;> simpa

theorem applyModeVol_eq (d : Byte) (c : Chip) :
    applyModeVol d c = { c with
      regs := c.regs.set 0x18 d
      voices := if filterTypeChanged (regAt c 0x18) d then c.voices.update (fun _ x => clearFilter x) else c.voices } := by
  unfold applyModeVol
  split <;> rfl

/-- Settles O15: whether the filter type changed decides between the voices as they were and the voices cleared. -/
theorem applyModeVolResetsTheFilter : Obligations.ApplyModeVolResetsTheFilter := by
  intro d c old same c'
  have hsame : filterTypeChanged (regAt c 0x18) d = false ↔ same := filterTypeChanged_eq_false_iff old d
  have hmodeVol : c' = _ := (applyWrite_modeVol d c).trans (applyModeVol_eq d c)
  refine ⟨?frame, fun h => ?kept, fun h v => ?cleared⟩
  case frame => rw [hmodeVol]
  case kept => rw [hmodeVol, hsame.mpr h]; rfl
  case cleared =>
    have hchanged : filterTypeChanged (regAt c 0x18) d = true := by
      rw [← Bool.not_eq_false, hsame]
      exact h
    rw [hmodeVol, if_pos hchanged]
    exact voiceAt_updateVoices c (fun _ x => clearFilter x) v

/-! ## What APPLY reads -/

/-- APPLY reads nothing of the chip but the registers and the voices. Only MODE_VOL branches on what it reads. -/
theorem applyWrite_synthesis_congr {c c' : Chip} (h : c.synthesis = c'.synthesis) (a d : Byte) :
    (applyWrite a d c).synthesis = (applyWrite a d c').synthesis := by
  have hmodeVol : (applyModeVol d c).synthesis = (applyModeVol d c').synthesis := by
    obtain ⟨hregs, hvoices⟩ := Chip.synthesis_eq_iff.mp h
    rw [applyModeVol_eq, applyModeVol_eq, regAt, regAt, hregs, hvoices]
    rfl
  cases c
  cases c'
  obtain ⟨rfl, rfl⟩ := Chip.synthesis_eq_iff.mp h
  unfold applyWrite
  split
  case h_25 => exact hmodeVol
  all_goals rfl

end Sys2Proof.Machine
end

section
/-! REG_WRITE and REG_READ (41_bus_interface.md R65, R66), one equation for each outcome. -/

namespace Sys2Proof.Machine

open Spec (addrByte queuedEntry regWriteOf regReadOf)

/-! ## Addresses of the register space -/

@[simp] theorem addrByte_toNat (a : Fin 32) : (addrByte a).toNat = a.val := by
  rw [addrByte, BitVec.toNat_ofNat, Nat.mod_eq_of_lt (by omega)]

theorem addrByte_inside (a : Fin 32) : ¬ 0x20 ≤ addrByte a := by
  simp [BitVec.le_def]

theorem outside_of_class {addr : Byte} (hclass : addrIn 0x20 0x3F addr = true ∨ addrIn 0x40 0x7F addr = true ∨
    addrIn 0x80 0xFF addr = true) : 0x20 ≤ addr.toNat := by
  obtain h | h | h := hclass
  · exact (class20_bounds h).1
  · have := class40_bounds h
    omega
  · have := class80_bounds h
    omega

/-! ## REG_WRITE -/

theorem exec_regWriteOf (a : Fin 32) (d : Byte) (cycle : Arg) (s : State) :
    exec (regWriteOf a d cycle) s = .next (regWrite (addrByte a) d cycle s) := by
  fin_cases a <;> rfl

theorem regWrite_of_outside {addr : Byte} (hout : 0x20 ≤ addr.toNat) (d : Byte) (cycle : Arg) (s : State) :
    regWrite addr d cycle s = s.finish .none :=
  if_pos hout

theorem writeEntry_addrByte (c : Chip) (a : Fin 32) (d : Byte) (cycle : Arg) :
    writeEntry c (addrByte a) d cycle = queuedEntry c a d cycle := by
  have hnonneg (x : Int) : (max 0 x).toNat = x.toNat := by omega
  rw [writeEntry, queuedEntry, elapsedCycles, hnonneg]

section
variable {s : State}

theorem regWrite_of_active (hactive : active s.chip = true) (a : Fin 32) (d : Byte) (cycle : Arg) :
    regWrite (addrByte a) d cycle s =
      (enqueue (s.setChip { s.chip with latch := d, lastWriteCycle := cycle })
        (queuedEntry s.chip a d cycle)).finish .none := by
  rw [regWrite, if_neg (addrByte_inside a), if_pos hactive, writeEntry_addrByte]

/-- The write is applied under the new latch, which APPLY does not read. -/
theorem regWrite_of_inert (hinert : active s.chip = false) (a : Fin 32) (d : Byte) (cycle : Arg) :
    regWrite (addrByte a) d cycle s = (s.setChip { s.chip with
      latch := d
      lastWriteCycle := cycle
      regs := (applyWrite (addrByte a) d s.chip).regs
      voices := (applyWrite (addrByte a) d s.chip).voices }).finish .none := by
  have hlatch : Chip.synthesis { s.chip with latch := d } = s.chip.synthesis := rfl
  obtain ⟨hregs, hvoices⟩ := Chip.synthesis_eq_iff.mp (applyWrite_synthesis_congr hlatch (addrByte a) d)
  rw [regWrite, if_neg (addrByte_inside a), if_neg (Bool.eq_false_iff.mp hinert), applyWrite_frame, hregs, hvoices]

end

/-- Settles O7: the entry goes to the tail of a queue with room. -/
theorem activeRegWriteIsQueued : Obligations.ActiveRegWriteIsQueued := by
  intro a d cycle s hsample hclock hroom
  rw [exec_regWriteOf, regWrite_of_active ((active_iff _).mpr ⟨hsample, hclock⟩), enqueue_of_room]
  · rfl
  · exact hroom.ne

/-- Settles O8: the full queue drops the entry, after the latch and the baseline have moved. -/
theorem activeRegWriteIntoFullQueueIsDropped : Obligations.ActiveRegWriteIntoFullQueueIsDropped := by
  intro a d cycle s hsample hclock hfull
  rw [exec_regWriteOf, regWrite_of_active ((active_iff _).mpr ⟨hsample, hclock⟩), enqueue_of_full]
  · rfl
  · exact hfull

/-- Settles O9: without both rates the chip is not active, so the write takes the branch that applies it. -/
theorem inertRegWriteAppliesAtOnce : Obligations.InertRegWriteAppliesAtOnce := by
  intro a d cycle s hunset
  have hinert : active s.chip = false := by
    rw [Bool.eq_false_iff, ne_eq, active_iff]
    omega
  rw [exec_regWriteOf, regWrite_of_inert hinert]
  rfl

/-- Settles O10: the three classes lie from 0x20 up. -/
theorem regWriteOutsideTheSpaceIsIgnored : Obligations.RegWriteOutsideTheSpaceIsIgnored := by
  intro addr d cycle s
  have hignored (hout : 0x20 ≤ addr.toNat) :
      Host.Outcome.next (regWrite addr d cycle s) = (.next { s with result := .none } : Out) :=
    congrArg Host.Outcome.next (regWrite_of_outside hout d cycle s)
  exact ⟨fun h => hignored (outside_of_class (.inl h)), fun h => hignored (outside_of_class (.inr (.inl h))),
    fun h => hignored (outside_of_class (.inr (.inr h)))⟩

/-! ## REG_READ -/

theorem exec_regReadOf (a : Fin 32) (s : State) :
    exec (regReadOf a) s = .next (regRead (addrByte a) s) := by
  fin_cases a <;> rfl

/-- The ranges of R66 as numbers. -/
theorem regRead_eq (addr : Byte) (s : State) :
    regRead addr s =
      if addr.toNat ≤ 0x18 then s.finish (.byte s.chip.latch)
      else if addr.toNat = 0x19 ∨ addr.toNat = 0x1A then returnDraw s
      else if addr.toNat = 0x1B then s.finish (.byte (wave8 s.chip 2))
      else if addr.toNat = 0x1C then s.finish (.byte (envLevel s.chip 2))
      else if addr.toNat ≤ 0x1F then s.finish (.byte s.chip.latch)
      else returnDraw s := by
  simp only [regRead, BitVec.le_def, ← BitVec.toNat_inj]
  rfl

theorem regRead_of_latched {a : Fin 32} (hlatched : a.val ≤ 0x18 ∨ 0x1D ≤ a.val) (s : State) :
    regRead (addrByte a) s = s.finish (.byte s.chip.latch) := by
  rw [regRead_eq, addrByte_toNat]
  obtain hlow | hhigh := hlatched
  · rw [if_pos hlow]
  · rw [if_neg (by omega), if_neg (by omega), if_neg (by omega), if_neg (by omega), if_pos (by omega)]

theorem regRead_osc3 (s : State) : regRead 0x1B s = s.finish (.byte (wave8 s.chip 2)) := rfl

theorem regRead_env3 (s : State) : regRead 0x1C s = s.finish (.byte (envLevel s.chip 2)) := rfl

theorem regRead_of_paddle {addr : Byte} (hpaddle : addr = 0x19 ∨ addr = 0x1A) (s : State) :
    regRead addr s = returnDraw s := by
  obtain rfl | rfl := hpaddle <;> rfl

theorem envLevel_eq_ofNat (c : Chip) (v : VoiceId) :
    envLevel c v = BitVec.ofNat 8 ((voiceAt c v).E.toNat / 2 ^ 23) := by
  rw [← Nat.shiftRight_eq_div_pow]
  rfl

theorem regRead_of_outside {addr : Byte} (hout : 0x20 ≤ addr.toNat) (s : State) :
    regRead addr s = returnDraw s := by
  rw [regRead_eq, if_neg (by omega), if_neg (by omega), if_neg (by omega), if_neg (by omega), if_neg (by omega)]

/-- Settles O11: a latched address, OSC3 and ENV3 each have their equation of `regRead`. -/
theorem regReadInsideTheSpace : Obligations.RegReadInsideTheSpace := by
  intro a s
  refine ⟨fun hlatched => ?latched, ?osc3, ?env3⟩
  case latched =>
    rw [exec_regReadOf, regRead_of_latched hlatched]
    rfl
  case osc3 => exact congrArg Host.Outcome.next (regRead_osc3 s)
  case env3 =>
    rw [← envLevel_eq_ofNat]
    exact congrArg Host.Outcome.next (regRead_env3 s)

/-- Settles O12: the paddles and the three classes from 0x20 up all draw. -/
theorem regReadOfFreeBytes : Obligations.RegReadOfFreeBytes := by
  intro addr s
  have hdrawn (hout : 0x20 ≤ addr.toNat) : Host.Outcome.next (regRead addr s) = (.next (returnDraw s) : Out) :=
    congrArg Host.Outcome.next (regRead_of_outside hout s)
  exact ⟨congrArg Host.Outcome.next (regRead_of_paddle (.inl rfl) s),
    congrArg Host.Outcome.next (regRead_of_paddle (.inr rfl) s), fun h => hdrawn (outside_of_class (.inl h)),
    fun h => hdrawn (outside_of_class (.inr (.inl h))), fun h => hdrawn (outside_of_class (.inr (.inr h)))⟩

end Sys2Proof.Machine
end

section
/-! RENDER (42_render.md R77 to R85): the samples it makes, the writes its backlog skips and its replay loop lands, and what it
leaves alone. -/

namespace Sys2Proof.Machine

/-! ## The two operations on the front entry -/

theorem decFront_of_cons {c : Chip} {e : Entry} {rest : List Entry} (hfront : c.queue = e :: rest) (x : Nat) :
    decFront c x = { c with queue := { e with delta := e.delta - x } :: rest } := by
  simp only [decFront, hfront]

theorem applyFront_of_cons {c : Chip} {e : Entry} {rest : List Entry} (hfront : c.queue = e :: rest) :
    applyFront e c = applyWrite e.addr e.value { c with queue := rest } := by
  rw [applyFront, popFront_of_cons hfront]

@[simp] theorem applyFront_queue (e : Entry) (c : Chip) : (applyFront e c).queue = c.queue.tail :=
  applyWrite_queue e.addr e.value (popFront c)

@[simp] theorem applyFront_lastWriteCycle (e : Entry) (c : Chip) :
    (applyFront e c).lastWriteCycle = c.lastWriteCycle :=
  applyWrite_lastWriteCycle e.addr e.value (popFront c)

/-- The writes of a list applied in order, the queue left alone (R78). -/
def applyWrites (writes : List Entry) (c : Chip) : Chip :=
  writes.foldl (fun c e => applyWrite e.addr e.value c) c

@[simp] theorem applyWrites_nil (c : Chip) : applyWrites [] c = c := rfl

theorem applyWrites_cons (e : Entry) (writes : List Entry) (c : Chip) :
    applyWrites (e :: writes) c = applyWrites writes (applyWrite e.addr e.value c) := rfl

theorem applyWrites_setQueue (writes : List Entry) (c : Chip) (q : List Entry) :
    applyWrites writes { c with queue := q } = { applyWrites writes c with queue := q } := by
  induction writes generalizing c with
  | nil => rfl
  | cons e writes ih => rw [applyWrites_cons, applyWrite_setQueue, ih, applyWrites_cons]

/-! ## BACKLOG -/

/-- `skipped` is the shortest front part of `q` whose removal leaves at most `bound` tau queued (R78). -/
structure SkipsOldest (bound : Nat) (q skipped left : List Entry) : Prop where
  split : q = skipped ++ left
  within : totalDelta left ≤ bound
  minimal : ∀ before last, skipped = before ++ [last] → bound < totalDelta (last :: left)

theorem skipsOldest_nil {bound : Nat} {q : List Entry} (hwithin : totalDelta q ≤ bound) : SkipsOldest bound q [] q :=
  ⟨rfl, hwithin, by simp⟩

theorem SkipsOldest.cons {bound : Nat} {e : Entry} {q skipped left : List Entry}
    (hbeyond : bound < totalDelta (e :: q)) (h : SkipsOldest bound q skipped left) :
    SkipsOldest bound (e :: q) (e :: skipped) left where
  split := by rw [h.split, List.cons_append]
  within := h.within
  minimal before last hlast := by
    cases before with
    | nil =>
      obtain ⟨rfl, rfl⟩ : e = last ∧ skipped = [] := by simpa using hlast
      rwa [h.split] at hbeyond
    | cons first before => exact h.minimal before last (List.cons.inj hlast).2

/-- The last write skipped was still needed, so a queue within the bound has none. -/
theorem SkipsOldest.skipped_eq_nil {bound : Nat} {q skipped left : List Entry} (h : SkipsOldest bound q skipped left)
    (hwithin : totalDelta q ≤ bound) : skipped = [] := by
  obtain hnil | ⟨before, last, hlast⟩ := skipped.eq_nil_or_concat
  · exact hnil
  · have hneeded := h.minimal before last (by simpa using hlast)
    rw [h.split, hlast, List.concat_eq_append, totalDelta_append, totalDelta_append] at hwithin
    simp only [totalDelta_cons, totalDelta_nil] at hwithin hneeded
    omega

theorem Chip.setQueue_self {c : Chip} {q : List Entry} (hqueue : c.queue = q) : { c with queue := q } = c := by
  rw [← hqueue]

/-- The loop's excess is what its queue holds beyond the bound. -/
theorem backlogLoop_skipsOldest (bound : Nat) (q : List Entry) (c : Chip) (hqueue : c.queue = q) :
    ∃ skipped left, SkipsOldest bound q skipped left ∧
      backlogLoop q ((totalDelta q : Int) - bound) c = { applyWrites skipped c with queue := left } := by
  induction q generalizing c with
  | nil => exact ⟨[], [], skipsOldest_nil (by simp), (Chip.setQueue_self hqueue).symm⟩
  | cons e rest ih =>
    unfold backlogLoop
    split
    · next hexcess =>
      have hrest : ((totalDelta (e :: rest) : Int) - bound) - e.delta = (totalDelta rest : Int) - bound := by
        rw [totalDelta_cons]
        omega
      obtain ⟨skipped, left, hskips, hloop⟩ := ih (applyFront e c) (by simp [hqueue])
      refine ⟨e :: skipped, left, hskips.cons (by omega), ?_⟩
      rw [hrest, hloop, applyFront_eq, applyWrites_setQueue, applyWrites_cons]
    · next hexcess => exact ⟨[], e :: rest, skipsOldest_nil (by omega), (Chip.setQueue_self hqueue).symm⟩

theorem backlog_skipsOldest (n : Nat) (c : Chip) :
    ∃ skipped left, SkipsOldest (n * c.clockRate) c.queue skipped left ∧
      backlog n c = { applyWrites skipped c with queue := left } := by
  simpa [backlog] using backlogLoop_skipsOldest (n * c.clockRate) c.queue c rfl

/-- BACKLOG leaves at most one buffer queued (R83). -/
theorem totalDelta_backlog_le (n : Nat) (c : Chip) : totalDelta (backlog n c).queue ≤ n * c.clockRate := by
  obtain ⟨skipped, left, hskips, hbacklog⟩ := backlog_skipsOldest n c
  rw [hbacklog]
  exact hskips.within

theorem backlog_of_within {n : Nat} {c : Chip} (hwithin : totalDelta c.queue ≤ n * c.clockRate) : backlog n c = c := by
  obtain ⟨skipped, left, hskips, hbacklog⟩ := backlog_skipsOldest n c
  obtain rfl := hskips.skipped_eq_nil hwithin
  obtain rfl : c.queue = left := hskips.split
  exact hbacklog

/-! ## One round of the replay loop -/

/-- The chip after one round within the buffer: the ticks up to the front write's sample, then the write (R79). -/
def afterFront (c : Chip) (e : Entry) : Chip :=
  replayWithin (frontTime c e) e (ticks (frontSamples c e) c).2

section
variable {c : Chip} {e : Entry} {rest : List Entry}

@[simp] theorem afterFront_clockRate (c : Chip) (e : Entry) : (afterFront c e).clockRate = c.clockRate := by
  simp [afterFront]

theorem afterFront_frac (c : Chip) (e : Entry) : (afterFront c e).frac = (c.frac + e.delta) % c.clockRate := by
  simp [afterFront, replayWithin, frontTime]

theorem afterFront_queue (hfront : c.queue = e :: rest) : (afterFront c e).queue = rest := by
  simp [afterFront, replayWithin, hfront]

@[simp] theorem afterFront_lastWriteCycle (c : Chip) (e : Entry) :
    (afterFront c e).lastWriteCycle = c.lastWriteCycle := by
  simp [afterFront, replayWithin]

theorem afterFront_eq (hfront : c.queue = e :: rest) :
    afterFront c e =
      { applyWrite e.addr e.value { (ticks ((c.frac + e.delta) / c.clockRate) c).2 with queue := rest } with
        frac := (c.frac + e.delta) % c.clockRate } := by
  have hticks : (ticks (frontSamples c e) c).2.queue = e :: rest := by rw [ticks_queue, hfront]
  rw [afterFront, replayWithin, ticks_clockRate, applyFront_of_cons hticks]
  rfl

theorem replay_zero (q : List Entry) (c : Chip) : replay q 0 c = ([], c) := by
  cases q <;> rfl

theorem replay_nil_of_pos {rem : Nat} (hrem : 0 < rem) (c : Chip) :
    replay [] rem c = ((ticks rem c).1, replayEmpty (ticks rem c).2) := by
  obtain ⟨n, rfl⟩ := Nat.exists_eq_add_one.mpr hrem
  rfl

theorem replay_of_within {rem : Nat} (hrem : 0 < rem) (hwithin : frontSamples c e ≤ rem) (rest : List Entry) :
    replay (e :: rest) rem c =
      ((ticks (frontSamples c e) c).1 ++ (replay rest (rem - frontSamples c e) (afterFront c e)).1,
        (replay rest (rem - frontSamples c e) (afterFront c e)).2) := by
  obtain ⟨n, rfl⟩ := Nat.exists_eq_add_one.mpr hrem
  rw [replay_cons_succ, if_pos hwithin]
  rfl

theorem replay_of_beyond {rem : Nat} (hrem : 0 < rem) (hbeyond : rem < frontSamples c e) (rest : List Entry) :
    replay (e :: rest) rem c = ((ticks rem c).1, replayBeyond rem (ticks rem c).2) := by
  obtain ⟨n, rfl⟩ := Nat.exists_eq_add_one.mpr hrem
  rw [replay_cons_succ, if_neg (by omega)]

theorem replayBeyond_ticks_of_cons (hfront : c.queue = e :: rest) (rem : Nat) :
    replayBeyond rem (ticks rem c).2 =
      { (ticks rem c).2 with queue := { e with delta := e.delta - rem * c.clockRate } :: rest } := by
  have hticks : (ticks rem c).2.queue = e :: rest := by rw [ticks_queue, hfront]
  rw [replayBeyond, ticks_clockRate, decFront_of_cons hticks]

end

/-- What holds at the loop's three ends, and of a round within the buffer when it holds of the rest, holds of every
replay (R77). -/
theorem replay_induction {motive : List Entry → Nat → Chip → Prop}
    (done : ∀ q c, motive q 0 c)
    (empty : ∀ rem c, 0 < rem → motive [] rem c)
    (within : ∀ e rest rem c, 0 < rem → frontSamples c e ≤ rem →
      motive rest (rem - frontSamples c e) (afterFront c e) → motive (e :: rest) rem c)
    (beyond : ∀ e rest rem c, 0 < rem → rem < frontSamples c e → motive (e :: rest) rem c)
    (q : List Entry) (rem : Nat) (c : Chip) : motive q rem c := by
  induction q generalizing rem c with
  | nil =>
    obtain rfl | hrem := rem.eq_zero_or_pos
    · exact done [] c
    · exact empty rem c hrem
  | cons e rest ih =>
    obtain rfl | hrem := rem.eq_zero_or_pos
    · exact done (e :: rest) c
    · obtain hwithin | hbeyond := le_or_gt (frontSamples c e) rem
      · exact within e rest rem c hrem hwithin (ih _ _)
      · exact beyond e rest rem c hrem hbeyond

/-- Settles O33: the loop's three equations, with `afterFront` and `replayBeyond` written out for a known front entry. -/
theorem replayOfTheFrontWrite : Obligations.ReplayOfTheFrontWrite := by
  refine ⟨replay_zero, fun rem c hrem => replay_nil_of_pos hrem c,
    fun c e rest rem hrem _ hfront => ⟨fun hwithin => ?within, fun hbeyond => ?beyond⟩⟩
  case within =>
    rw [hfront, replay_of_within hrem hwithin, afterFront_eq hfront]
    rfl
  case beyond => rw [hfront, replay_of_beyond hrem hbeyond, replayBeyond_ticks_of_cons hfront]

/-- The loop makes the samples it has left to make (R82). -/
@[simp] theorem replay_length (q : List Entry) (rem : Nat) (c : Chip) : (replay q rem c).1.length = rem := by
  induction q, rem, c using replay_induction with
  | done q c => rw [replay_zero, List.length_nil]
  | empty rem c hrem => rw [replay_nil_of_pos hrem, ticks_length]
  | within e rest rem c hrem hwithin ih =>
    rw [replay_of_within hrem hwithin, List.length_append, ticks_length, ih]
    omega
  | beyond e rest rem c hrem hbeyond => rw [replay_of_beyond hrem hbeyond, ticks_length]

/-! ## The whole command -/

section
variable {n : Arg} {s : State}

theorem exec_render (n : Arg) (s : State) : exec (.render n) s = .next (render n.toInt s) := rfl

theorem render_of_nonpos {n : Int} (hcount : n ≤ 0) (s : State) : render n s = s.finish (.samples []) :=
  if_pos hcount

theorem render_of_inert {n : Int} (hcount : 0 < n) (hinert : active s.chip = false) :
    render n s = s.finish (.samples (List.replicate n.toNat 0)) := by
  rw [render, if_neg (by omega), if_neg (by simp [hinert])]

theorem render_of_active {n : Int} (hcount : 0 < n) (hactive : active s.chip = true) :
    render n s = (s.setChip (renderActive n.toNat s.chip).2).finish (.samples (renderActive n.toNat s.chip).1) := by
  rw [render, if_neg (by omega), if_pos hactive]

/-- RENDER makes no samples, n zeros, or what the replay loop makes (R77). -/
theorem render_cases (n : Int) (s : State) :
    (n ≤ 0 ∧ render n s = s.finish (.samples [])) ∨
    (0 < n ∧ render n s = s.finish (.samples (List.replicate n.toNat 0))) ∨
    (0 < n ∧ render n s =
      (s.setChip (renderActive n.toNat s.chip).2).finish (.samples (renderActive n.toNat s.chip).1)) := by
  obtain hcount | hcount := le_or_gt n 0
  · exact .inl ⟨hcount, render_of_nonpos hcount s⟩
  · cases hactive : active s.chip with
    | false => exact .inr (.inl ⟨hcount, render_of_inert hcount hactive⟩)
    | true => exact .inr (.inr ⟨hcount, render_of_active hcount hactive⟩)

theorem exec_render_of_active (hcount : 0 < n.toInt) (hsample : 0 < s.chip.sampleRate) (hclock : 0 < s.chip.clockRate) :
    exec (.render n) s = .next { s with
      chip := (renderActive n.toInt.toNat s.chip).2
      result := .samples (renderActive n.toInt.toNat s.chip).1 } := by
  rw [exec_render, render_of_active hcount ((active_iff s.chip).mpr ⟨hsample, hclock⟩)]
  rfl

end

/-- Settles O31: the two outcomes of RENDER that leave the chip. -/
theorem renderWithoutWork : Obligations.RenderWithoutWork := by
  refine fun n s => ⟨fun hcount => ?_, fun hcount hunset => ?_⟩
  · rw [exec_render, render_of_nonpos hcount]
    rfl
  · have hinert : active s.chip = false := by
      rw [Bool.eq_false_iff, ne_eq, active_iff]
      omega
    rw [exec_render, render_of_inert hcount hinert]
    rfl

/-- Settles O30: each of the three outcomes of RENDER has the length asked for. -/
theorem renderEmitsExactlyTheCount : Obligations.RenderEmitsExactlyTheCount := by
  intro n s
  obtain ⟨hcount, hrender⟩ | ⟨-, hrender⟩ | ⟨-, hrender⟩ := render_cases n.toInt s <;>
    refine ⟨_, _, by rw [exec_render, hrender], rfl, ?_⟩
  · rw [List.length_nil]
    omega
  · exact List.length_replicate
  · exact replay_length _ _ _

/-- Settles O32: nothing is queued, so BACKLOG does nothing and the loop is at its empty end. -/
theorem renderOfAnEmptyQueueFreeRuns : Obligations.RenderOfAnEmptyQueueFreeRuns := by
  intro n s hcount hsample hclock hempty
  have hbacklog : backlog n.toInt.toNat s.chip = s.chip := backlog_of_within (by simp [hempty])
  rw [exec_render_of_active hcount hsample hclock, renderActive, hbacklog, hempty,
    replay_nil_of_pos (by omega)]
  rfl

/-- Settles O34: the loop's excess is the queued time less one buffer, so it stops as soon as that fits. -/
theorem backlogSkipsTheOldest : Obligations.BacklogSkipsTheOldest := by
  refine ⟨fun n s hcount hsample hclock => exec_render_of_active hcount hsample hclock, fun n c => ?_⟩
  obtain ⟨skipped, left, hskips, hbacklog⟩ := backlog_skipsOldest n c
  exact ⟨skipped, left, hskips.split, hbacklog, hskips.within, hskips.minimal⟩

/-! ## What RENDER leaves alone -/

/-- What no part of RENDER writes: the configuration, the rates, the latch and the overflow count. -/
def Chip.settings (c : Chip) : (Variant × Nat) × Nat × Nat × Byte × Nat :=
  (c.configuration, c.sampleRate, c.clockRate, c.latch, c.overflowCount)

theorem Chip.settings_eq_iff {a b : Chip} :
    a.settings = b.settings ↔ a.variant = b.variant ∧ a.qcap = b.qcap ∧ a.sampleRate = b.sampleRate ∧
      a.clockRate = b.clockRate ∧ a.latch = b.latch ∧ a.overflowCount = b.overflowCount := by
  simp only [Chip.settings, Prod.mk.injEq, Chip.configuration_eq_iff, and_assoc]

theorem ticks_settings (k : Nat) (c : Chip) : (ticks k c).2.settings = c.settings := by
  rw [ticks_frame]
  rfl

theorem applyFront_settings (e : Entry) (c : Chip) : (applyFront e c).settings = c.settings := by
  rw [applyFront_frame]
  rfl

theorem decFront_settings (c : Chip) (x : Nat) : (decFront c x).settings = c.settings := by
  rw [decFront_frame]
  rfl

theorem backlog_settings (n : Nat) (c : Chip) : (backlog n c).settings = c.settings :=
  backlogLoop_keeps Chip.settings applyFront_settings c.queue _ c

theorem replay_settings (q : List Entry) (rem : Nat) (c : Chip) : (replay q rem c).2.settings = c.settings :=
  replay_keeps Chip.settings ticks_settings (fun _ e c => applyFront_settings e c)
    (fun m c => decFront_settings c (m * c.clockRate)) (fun _ => rfl) q rem c

theorem renderActive_settings (n : Nat) (c : Chip) : (renderActive n c).2.settings = c.settings :=
  (replay_settings _ n _).trans (backlog_settings n c)

/-- Only the loop's empty end touches the baseline (R81). -/
theorem replay_lastWriteCycle (q : List Entry) (rem : Nat) (c : Chip) :
    (replay q rem c).2.lastWriteCycle = c.lastWriteCycle ∨ (replay q rem c).2.lastWriteCycle = 0 := by
  induction q, rem, c using replay_induction with
  | done q c => exact .inl (by rw [replay_zero])
  | empty rem c hrem => exact .inr (by rw [replay_nil_of_pos hrem, replayEmpty_lastWriteCycle])
  | within e rest rem c hrem hwithin ih =>
    rw [replay_of_within hrem hwithin]
    rwa [afterFront_lastWriteCycle] at ih
  | beyond e rest rem c hrem hbeyond =>
    left
    rw [replay_of_beyond hrem hbeyond, replayBeyond, decFront_frame]
    exact ticks_lastWriteCycle rem c

theorem renderActive_lastWriteCycle (n : Nat) (c : Chip) :
    (renderActive n c).2.lastWriteCycle = c.lastWriteCycle ∨ (renderActive n c).2.lastWriteCycle = 0 := by
  simpa [renderActive] using replay_lastWriteCycle (backlog n c).queue n (backlog n c)

/-- RENDER writes the chip and the result only. -/
theorem render_machine_frame (n : Int) (s : State) :
    render n s = { s with chip := (render n s).chip, result := (render n s).result } := by
  obtain ⟨-, hrender⟩ | ⟨-, hrender⟩ | ⟨-, hrender⟩ := render_cases n s <;> rw [hrender] <;> rfl

theorem render_settings (n : Int) (s : State) : (render n s).chip.settings = s.chip.settings := by
  obtain ⟨-, hrender⟩ | ⟨-, hrender⟩ | ⟨-, hrender⟩ := render_cases n s <;> rw [hrender]
  · rfl
  · rfl
  · exact renderActive_settings _ _

theorem render_lastWriteCycle (n : Int) (s : State) :
    (render n s).chip.lastWriteCycle = s.chip.lastWriteCycle ∨ (render n s).chip.lastWriteCycle = 0 := by
  obtain ⟨-, hrender⟩ | ⟨-, hrender⟩ | ⟨-, hrender⟩ := render_cases n s <;> rw [hrender]
  · exact .inl rfl
  · exact .inl rfl
  · exact renderActive_lastWriteCycle _ _

/-- Settles O38: RENDER writes the chip and the result, and its loops keep the chip's settings. -/
theorem renderFrame : Obligations.RenderFrame := by
  intro n s t hexec
  obtain rfl : render n.toInt s = t := Host.Outcome.next.inj hexec
  obtain ⟨hvariant, hqcap, hsample, hclock, hlatch, hoverflow⟩ :=
    Chip.settings_eq_iff.mp (render_settings n.toInt s)
  refine ⟨?_, ?_, ?_, ?_, hvariant, hqcap, hsample, hclock, hlatch, hoverflow, render_lastWriteCycle n.toInt s⟩ <;>
    rw [render_machine_frame]

/-! ## Exact time -/

/-- The fraction is below one sample, and with the queued deltas it ends before sample `rem + 1`. -/
structure FitsBuffer (rem : Nat) (c : Chip) : Prop where
  frac_lt : c.frac < c.clockRate
  time_lt : c.frac + totalDelta c.queue < (rem + 1) * c.clockRate

section
variable {c : Chip} {e : Entry} {rest : List Entry} {rem : Nat}

theorem FitsBuffer.frontSamples_le (h : FitsBuffer rem c) (hfront : c.queue = e :: rest) :
    frontSamples c e ≤ rem := by
  have htime := h.time_lt
  rw [hfront, totalDelta_cons] at htime
  have hclock : 0 < c.clockRate := by have := h.frac_lt; omega
  rw [frontSamples, frontTime, ← Nat.lt_add_one_iff, Nat.div_lt_iff_lt_mul hclock]
  omega

/-- A round takes its whole samples out of the time queued. -/
theorem afterFront_time (hfront : c.queue = e :: rest) :
    frontSamples c e * c.clockRate + ((afterFront c e).frac + totalDelta (afterFront c e).queue) =
      c.frac + totalDelta c.queue := by
  have hround := Nat.div_add_mod' (c.frac + e.delta) c.clockRate
  rw [afterFront_queue hfront, afterFront_frac, frontSamples, frontTime, hfront, totalDelta_cons]
  omega

theorem afterFront_frac_lt (hclock : 0 < c.clockRate) : (afterFront c e).frac < (afterFront c e).clockRate := by
  rw [afterFront_frac, afterFront_clockRate]
  exact Nat.mod_lt _ hclock

theorem FitsBuffer.afterFront (h : FitsBuffer rem c) (hfront : c.queue = e :: rest) :
    FitsBuffer (rem - frontSamples c e) (afterFront c e) where
  frac_lt := afterFront_frac_lt (by have := h.frac_lt; omega)
  time_lt := by
    obtain ⟨later, hlater⟩ := Nat.exists_eq_add_of_le (h.frontSamples_le hfront)
    have htime := h.time_lt
    rw [← afterFront_time hfront, hlater, Nat.add_assoc, Nat.add_mul] at htime
    rw [afterFront_clockRate, hlater, Nat.add_sub_cancel_left]
    omega

/-- No write is carried over, so the queue after the loop is an unaltered suffix (R83). -/
theorem replay_queue_suffix (q : List Entry) (rem : Nat) (c : Chip) (hqueue : c.queue = q) (h : FitsBuffer rem c) :
    ∃ done, q = done ++ (replay q rem c).2.queue := by
  induction q, rem, c using replay_induction with
  | done q c => exact ⟨[], by rw [replay_zero, hqueue, List.nil_append]⟩
  | empty rem c hrem => exact ⟨[], by simp [replay_nil_of_pos hrem, hqueue]⟩
  | within e rest rem c hrem hwithin ih =>
    obtain ⟨done, hdone⟩ := ih (afterFront_queue hqueue) (h.afterFront hqueue)
    exact ⟨e :: done, by rw [replay_of_within hrem hwithin, List.cons_append, ← hdone]⟩
  | beyond e rest rem c hrem hbeyond =>
    have := h.frontSamples_le hqueue
    omega

/-- What the loop leaves of the time queued is its part of a sample (R84). -/
theorem replay_time (q : List Entry) (rem : Nat) (c : Chip) (hqueue : c.queue = q) (h : FitsBuffer rem c) :
    (replay q rem c).2.frac + totalDelta (replay q rem c).2.queue = (c.frac + totalDelta c.queue) % c.clockRate := by
  induction q, rem, c using replay_induction with
  | done q c =>
    have htime := h.time_lt
    rw [replay_zero, Nat.mod_eq_of_lt (by omega)]
  | empty rem c hrem =>
    rw [replay_nil_of_pos hrem, replayEmpty_frac, replayEmpty_queue, ticks_frac, ticks_queue, hqueue, totalDelta_nil,
      Nat.add_zero, Nat.mod_eq_of_lt h.frac_lt]
  | within e rest rem c hrem hwithin ih =>
    rw [replay_of_within hrem hwithin, ih (afterFront_queue hqueue) (h.afterFront hqueue), afterFront_clockRate,
      ← afterFront_time hqueue, Nat.mul_add_mod']
  | beyond e rest rem c hrem hbeyond =>
    have := h.frontSamples_le hqueue
    omega

end

section
variable {c : Chip}

theorem fitsBuffer_of_sound (h : c.Sound) (hclock : 0 < c.clockRate) {n : Nat}
    (hwithin : totalDelta c.queue ≤ n * c.clockRate) : FitsBuffer n c where
  frac_lt := h.frac_within hclock.ne'
  time_lt := by
    have := h.frac_within hclock.ne'
    rw [Nat.succ_mul]
    omega

theorem backlog_fitsBuffer (h : c.Sound) (hclock : 0 < c.clockRate) (n : Nat) : FitsBuffer n (backlog n c) :=
  fitsBuffer_of_sound (backlog_sound h n) (by simpa) (by simpa using totalDelta_backlog_le n c)

theorem renderActive_queue_suffix (h : c.Sound) (hclock : 0 < c.clockRate) (n : Nat) :
    ∃ done, c.queue = done ++ (renderActive n c).2.queue := by
  obtain ⟨skipped, hskipped⟩ := backlogLoop_queue c.queue ((totalDelta c.queue : Int) - n * c.clockRate) c rfl
  obtain ⟨landed, hlanded⟩ := replay_queue_suffix _ n _ rfl (backlog_fitsBuffer h hclock n)
  refine ⟨skipped ++ landed, ?_⟩
  calc c.queue = skipped ++ (backlog n c).queue := hskipped
    _ = skipped ++ (landed ++ (renderActive n c).2.queue) := congrArg (skipped ++ ·) hlanded
    _ = skipped ++ landed ++ (renderActive n c).2.queue := (List.append_assoc ..).symm

theorem renderActive_time (h : c.Sound) (hclock : 0 < c.clockRate) (n : Nat) :
    (renderActive n c).2.frac + totalDelta (renderActive n c).2.queue =
      (c.frac + totalDelta (backlog n c).queue) % c.clockRate := by
  simpa [renderActive] using replay_time _ n _ rfl (backlog_fitsBuffer h hclock n)

end

/-- Settles O35: a remainder by the clock rate is below it. -/
theorem renderLeavesLessThanASample : Obligations.RenderLeavesLessThanASample := by
  intro n s hsound hcount hsample hclock
  obtain ⟨done, hsuffix⟩ := renderActive_queue_suffix hsound hclock n.toInt.toNat
  refine ⟨_, done, exec_render_of_active hcount hsample hclock, hsuffix, ?_⟩
  exact (renderActive_time hsound hclock n.toInt.toNat).trans_lt (Nat.mod_lt _ hclock)

/-- Settles O36: m is the quotient whose remainder `renderActive_time` gives. -/
theorem renderConservesTime : Obligations.RenderConservesTime := by
  intro n s hsound hcount hsample hclock
  obtain ⟨skipped, kept, hskips, hbacklog⟩ := backlog_skipsOldest n.toInt.toNat s.chip
  have hkept : (backlog n.toInt.toNat s.chip).queue = kept := congrArg Chip.queue hbacklog
  have hfits := (backlog_fitsBuffer hsound hclock n.toInt.toNat).time_lt
  have htime := renderActive_time hsound hclock n.toInt.toNat
  rw [backlog_frac, backlog_clockRate, hkept] at hfits
  rw [hkept] at htime
  refine ⟨_, skipped, kept, (s.chip.frac + totalDelta kept) / s.chip.clockRate,
    exec_render_of_active hcount hsample hclock, hskips.split, hskips.skipped_eq_nil, hskips.within, ?_, ?_⟩
  · exact Nat.lt_succ_iff.mp ((Nat.div_lt_iff_lt_mul hclock).mpr hfits)
  · rw [Nat.add_assoc, htime, Nat.div_add_mod']

/-! ## Where a write lands -/

section
variable {c : Chip} {before after : List Entry} {e : Entry} {rem : Nat}

theorem rounds_cons (w : Entry) (ws : List Entry) (c : Chip) :
    Spec.rounds (w :: ws) c =
      ((ticks (frontSamples c w) c).1 ++ (Spec.rounds ws (afterFront c w)).1,
        (Spec.rounds ws (afterFront c w)).2) := by
  rw [afterFront, replayWithin, ticks_clockRate]
  rfl

@[simp] theorem rounds_clockRate (ws : List Entry) (c : Chip) : (Spec.rounds ws c).2.clockRate = c.clockRate := by
  induction ws generalizing c with
  | nil => rfl
  | cons w ws ih => rw [rounds_cons, ih, afterFront_clockRate]

theorem rounds_queue (hqueue : c.queue = before ++ after) : (Spec.rounds before c).2.queue = after := by
  induction before generalizing c with
  | nil => exact hqueue
  | cons w ws ih => rw [rounds_cons, ih (afterFront_queue hqueue)]

theorem rounds_fitsBuffer (hqueue : c.queue = before ++ after) (h : FitsBuffer rem c) :
    FitsBuffer (rem - (Spec.rounds before c).1.length) (Spec.rounds before c).2 := by
  induction before generalizing c rem with
  | nil => exact h
  | cons w ws ih =>
    rw [rounds_cons, List.length_append, ticks_length, ← Nat.sub_sub]
    exact ih (afterFront_queue hqueue) (h.afterFront hqueue)

/-- Whole periods of a sum, counted in two steps with the remainder carried over. -/
theorem add_div_eq_div_add_mod {r : Nat} (hr : 0 < r) (t x : Nat) : (t + x) / r = t / r + (t % r + x) / r := by
  have hparts : t + x = t % r + x + t / r * r := by
    have := Nat.div_add_mod' t r
    omega
  conv_lhs => rw [hparts, Nat.add_mul_div_right _ _ hr, Nat.add_comm]

/-- The rounds of the writes make the whole samples up to the last of them (R79). -/
theorem rounds_length (hfrac : c.frac < c.clockRate) :
    (Spec.rounds before c).1.length = (c.frac + totalDelta before) / c.clockRate := by
  have hclock : 0 < c.clockRate := by omega
  induction before generalizing c with
  | nil => exact (Nat.div_eq_of_lt hfrac).symm
  | cons w ws ih =>
    rw [rounds_cons, List.length_append, ticks_length, ih (afterFront_frac_lt hclock) (by simpa), totalDelta_cons,
      ← Nat.add_assoc, add_div_eq_div_add_mod hclock, afterFront_frac, afterFront_clockRate]
    rfl

/-- The rounds carry the rest of the time in the fraction. -/
theorem rounds_frac (hfrac : c.frac < c.clockRate) :
    (Spec.rounds before c).2.frac = (c.frac + totalDelta before) % c.clockRate := by
  have hclock : 0 < c.clockRate := by omega
  induction before generalizing c with
  | nil => exact (Nat.mod_eq_of_lt hfrac).symm
  | cons w ws ih =>
    rw [rounds_cons, ih (afterFront_frac_lt hclock) (by simpa), totalDelta_cons, ← Nat.add_assoc, afterFront_frac,
      afterFront_clockRate, Nat.mod_add_mod]

/-- Writes whose rounds end before the buffer does are played as their rounds, and the loop goes on behind them. -/
theorem replay_append (hshort : (Spec.rounds before c).1.length < rem) (rest : List Entry) :
    replay (before ++ rest) rem c =
      ((Spec.rounds before c).1 ++
          (replay rest (rem - (Spec.rounds before c).1.length) (Spec.rounds before c).2).1,
        (replay rest (rem - (Spec.rounds before c).1.length) (Spec.rounds before c).2).2) := by
  induction before generalizing c rem with
  | nil => rfl
  | cons w ws ih =>
    rw [rounds_cons, List.length_append, ticks_length] at hshort ⊢
    rw [List.cons_append, replay_of_within (by omega) (by omega), ih (by omega), List.append_assoc, Nat.sub_sub]

/-- A write lands after the rounds before it and the ticks its own delta adds (R85). -/
theorem replay_lands (hqueue : c.queue = before ++ e :: after) (h : FitsBuffer rem c)
    (hshort : (Spec.rounds before c).1.length < rem) :
    let p := Spec.rounds before c
    let k := frontSamples p.2 e
    p.1.length + k ≤ rem ∧
    replay (before ++ e :: after) rem c =
      (p.1 ++ (ticks k p.2).1 ++ (replay after (rem - (p.1.length + k)) (afterFront p.2 e)).1,
        (replay after (rem - (p.1.length + k)) (afterFront p.2 e)).2) := by
  intro p k
  have hwithin : k ≤ rem - p.1.length := (rounds_fitsBuffer hqueue h).frontSamples_le (rounds_queue hqueue)
  refine ⟨(Nat.le_sub_iff_add_le' hshort.le).mp hwithin, ?_⟩
  rw [replay_append hshort, replay_of_within (Nat.sub_pos_of_lt hshort) hwithin, List.append_assoc, Nat.sub_sub]

/-- A write whose predecessors fill the buffer stays queued, whatever its own delta is. -/
theorem replay_keeps_queued (hqueue : c.queue = before ++ e :: after) (hfrac : c.frac < c.clockRate)
    (hfull : rem ≤ (c.frac + totalDelta before) / c.clockRate) :
    ∃ left, (replay (before ++ e :: after) rem c).2.queue = left ++ e :: after := by
  have hclock : 0 < c.clockRate := by omega
  induction before generalizing c rem with
  | nil =>
    obtain rfl : rem = 0 := by
      rwa [totalDelta_nil, Nat.add_zero, Nat.div_eq_of_lt hfrac, Nat.le_zero] at hfull
    exact ⟨[], by rw [replay_zero, hqueue]⟩
  | cons w ws ih =>
    obtain rfl | hrem := rem.eq_zero_or_pos
    · exact ⟨w :: ws, by rw [replay_zero, hqueue]⟩
    rw [List.cons_append] at hqueue ⊢
    obtain hwithin | hbeyond := le_or_gt (frontSamples c w) rem
    · have hrest : rem - frontSamples c w ≤
          ((afterFront c w).frac + totalDelta ws) / (afterFront c w).clockRate := by
        rw [totalDelta_cons, ← Nat.add_assoc, add_div_eq_div_add_mod hclock] at hfull
        rwa [Nat.sub_le_iff_le_add', afterFront_frac, afterFront_clockRate]
      rw [replay_of_within hrem hwithin]
      exact ih (afterFront_queue hqueue) (afterFront_frac_lt hclock) hrest (by simpa)
    · rw [replay_of_beyond hrem hbeyond, replayBeyond_ticks_of_cons hqueue]
      exact ⟨{ w with delta := w.delta - rem * c.clockRate } :: ws, rfl⟩

end

/-- Settles O37: the queue fits the buffer, so nothing is skipped and the loop plays it; the time of the write splits into
that of the rounds before it and that of its own round. -/
theorem writeLandsAtItsSample : Obligations.WriteLandsAtItsSample := by
  intro n s before after e hsound hcount hsample hclock hqueue hwithin c first time m played lead c2 later
  have hfits : FitsBuffer n.toInt.toNat c := fitsBuffer_of_sound hsound hclock hwithin
  have hexec := exec_render_of_active hcount hsample hclock
  rw [renderActive, backlog_of_within hwithin, hqueue] at hexec
  have hlength : played.1.length = first := rounds_length hfits.frac_lt
  refine ⟨fun hshort => ?lands, fun hfull => ?stays⟩
  case lands =>
    have hfrac : played.2.frac = (c.frac + totalDelta before) % c.clockRate := rounds_frac hfits.frac_lt
    have hclockRate : played.2.clockRate = c.clockRate := rounds_clockRate before c
    have hm : first + frontSamples played.2 e = m := by
      rw [frontSamples, frontTime, hfrac, hclockRate]
      exact (add_div_eq_div_add_mod hclock _ _).symm
    have hlead : frontSamples played.2 e = m - first := by omega
    have hrest : (played.2.frac + e.delta) % played.2.clockRate = time % c.clockRate := by
      rw [hfrac, hclockRate, Nat.mod_add_mod]
    have hc2 : afterFront played.2 e = c2 := by
      rw [afterFront_eq (rounds_queue hqueue), hrest, ← frontTime, ← frontSamples, hlead]
    obtain ⟨hfit, hreplay⟩ := replay_lands hqueue hfits (hlength.trans_lt hshort)
    rw [hlength, hm] at hfit hreplay
    rw [hlead, hc2] at hreplay
    refine ⟨hfit, ?_, ?_⟩
    · rw [List.length_append, hlength, ticks_length]
      omega
    · rw [hexec, hreplay]
  case stays =>
    obtain ⟨left, hleft⟩ := replay_keeps_queued hqueue hfits.frac_lt hfull
    exact ⟨_, left, hexec, hleft⟩

end Sys2Proof.Machine
end

section
/-! Ticks in a row (43_voice.md R86): their samples in order, and what they leave of the chip. -/

namespace Sys2Proof.Machine

theorem ticks_zero (c : Chip) : ticks 0 c = ([], c) := rfl

theorem ticks_succ (k : Nat) (c : Chip) :
    ticks (k + 1) c = (tickSample c :: (ticks k (tickChip c)).1, (ticks k (tickChip c)).2) := rfl

/-- Settles O29: the two equations of `ticks`, and the frame of k ticks by induction on k (`ticks_frame`). -/
theorem tickChangesOnlyVoices : Obligations.TickChangesOnlyVoices :=
  ⟨ticks_zero, ticks_succ, ticks_frame⟩

end Sys2Proof.Machine
end

section
/-! The noise register (43_voice.md R90): one shift as a number, and why 0 is reached from 0 alone. -/

namespace Sys2Proof.Machine

theorem xor_toNat (a b : Bool) : (a ^^ b).toNat = (a.toNat + b.toNat) % 2 := by
  cases a <;> cases b <;> rfl

/-- One shift doubles the low 22 bits and enters the sum of bits 22 and 17 modulo 2. -/
theorem lfsrStep_toNat (r : Noise) :
    (lfsrStep r).toNat = 2 * (r.toNat % 2 ^ 22) + (r.toNat / 2 ^ 22 + r.toNat / 2 ^ 17) % 2 := by
  have hbit : (r.getLsbD 22 ^^ r.getLsbD 17).toNat = (r.toNat / 2 ^ 22 + r.toNat / 2 ^ 17) % 2 := by
    rw [xor_toNat, BitVec.getLsbD, BitVec.getLsbD, Nat.toNat_testBit, Nat.toNat_testBit, ← Nat.add_mod]
  rw [lfsrStep, toNat_append_add, BitVec.toNat_ofBool, lowPart_toNat, hbit, pow_one, Nat.mul_comm]

/-- A shift to 0 leaves no bit behind: bits 21 to 0 are 0, bit 17 among them, so the bit that entered was bit 22. -/
theorem lfsrStep_eq_zero_iff (r : Noise) : lfsrStep r = 0 ↔ r = 0 := by
  have hstep := lfsrStep_toNat r
  bv_omega

theorem lfsrSteps_eq_zero_iff (k : Nat) (r : Noise) : lfsrSteps k r = 0 ↔ r = 0 := by
  induction k generalizing r with
  | zero => rfl
  | succ k ih => rw [lfsrSteps, ih, lfsrStep_eq_zero_iff]

theorem lfsrShift_zero_left (k : Nat) : lfsrShift 0 k = lfsrSeed :=
  if_pos ((lfsrSteps_eq_zero_iff k 0).mpr rfl)

/-- Only the register 0 is reseeded. -/
theorem lfsrShift_of_ne_zero {r : Noise} (hr : r ≠ 0) (k : Nat) : lfsrShift r k = lfsrSteps k r :=
  if_neg (mt (lfsrSteps_eq_zero_iff k r).mp hr)

theorem lfsrShift_ne_zero {r : Noise} (hr : r ≠ 0) (k : Nat) : lfsrShift r k ≠ 0 := by
  rwa [lfsrShift_of_ne_zero hr, Ne, lfsrSteps_eq_zero_iff]

theorem lfsrShift_succ (r : Noise) (k : Nat) : lfsrShift r (k + 1) = lfsrShift (lfsrStep r) k := rfl

/-- Settles O19: a shift reaches 0 from 0 alone, and so do k shifts. -/
theorem noiseRegisterNeverShiftsToZero : Obligations.NoiseRegisterNeverShiftsToZero :=
  ⟨lfsrStep_toNat,
    fun r k hr => ⟨lfsrShift_of_ne_zero hr 0, lfsrShift_ne_zero hr k, lfsrShift_succ r k⟩,
    lfsrShift_zero_left⟩

end Sys2Proof.Machine
end

section
/-! The oscillator over one tick (43_voice.md R88, R89, R93): passes 1 and 2 fix a voice's accumulator and noise register, the
later steps leave them. -/

namespace Sys2Proof.Machine

section
variable {c : Chip} {v : VoiceId} {x : Voice}

/-! ## The later steps of the tick -/

@[simp] theorem envStep_acc : (envStep c v x).acc = x.acc := by rw [envStep_frame]
@[simp] theorem envStep_lfsr : (envStep c v x).lfsr = x.lfsr := by rw [envStep_frame]
@[simp] theorem filterTick_acc : (filterTick c v x).acc = x.acc := by rw [filterTick_frame]
@[simp] theorem filterTick_lfsr : (filterTick c v x).lfsr = x.lfsr := by rw [filterTick_frame]

theorem tickChip_acc : (voiceAt (tickChip c) v).acc = (voiceAt (syncPass c) v).acc := by
  rw [voiceAt_tickChip, filterTick_acc, voiceAt_envPass, envStep_acc]

theorem tickChip_lfsr : (voiceAt (tickChip c) v).lfsr = (voiceAt (syncPass c) v).lfsr := by
  rw [voiceAt_tickChip, filterTick_lfsr, voiceAt_envPass, envStep_lfsr]

/-! ## Pass 1 -/

/-- The new accumulator is below the step exactly when the sum carries out of bit 31. -/
theorem wrapped_iff : wrapped c v = true ↔ Spec.Carries c v := by
  have hwrap : (voiceAt c v).acc + step32 c v < step32 c v ↔
      2 ^ 32 ≤ (voiceAt c v).acc.toNat + (step32 c v).toNat := by bv_omega
  simp [wrapped, Spec.Carries, hwrap]

theorem advance_of_test (htest : test c v = true) : advance c v x = { x with acc := 0, lfsr := lfsrSeed } :=
  if_pos htest

theorem advance_of_not_test (htest : test c v = false) :
    advance c v x =
      { x with
        acc := x.acc + step32 c v
        lfsr := if wrapped c v then lfsrShift x.lfsr (noiseShiftPerWrap c.variant) else x.lfsr } :=
  if_neg (by simp [htest])

theorem advance_acc_toNat (htest : test c v = false) :
    (advance c v x).acc.toNat = (x.acc.toNat + (step32 c v).toNat) % 2 ^ 32 := by
  rw [advance_of_not_test htest, BitVec.toNat_add]

/-- The noise register after pass 1: shifted exactly if the voice's own sum carried. -/
theorem advance_lfsr (htest : test c v = false) :
    Spec.Carries c v ∧ (advance c v x).lfsr = lfsrShift x.lfsr (noiseShiftPerWrap c.variant) ∨
      ¬ Spec.Carries c v ∧ (advance c v x).lfsr = x.lfsr := by
  rw [advance_of_not_test htest]
  by_cases hcarries : Spec.Carries c v
  · exact .inl ⟨hcarries, if_pos (wrapped_iff.mpr hcarries)⟩
  · exact .inr ⟨hcarries, if_neg (mt wrapped_iff.mp hcarries)⟩

/-- What pass 2 reads of a source voice is the statements' number. -/
theorem advancePass_acc_toNat (c : Chip) (v : VoiceId) :
    (voiceAt (advancePass c) v).acc.toNat = Spec.accAfterPass1 c v := by
  rw [voiceAt_advancePass]
  cases htest : test c v with
  | true => simp [advance_of_test htest, Spec.accAfterPass1, htest]
  | false => simp [advance_acc_toNat htest, Spec.accAfterPass1, htest]

/-! ## Pass 2 -/

/-- A voice that its source resets: the advance of its accumulator is lost, that of its noise register is not. -/
theorem syncPass_of_reset (htest : test c v = false) (hsync : sync c v = true) (hsource : Spec.Carries c (v + 2)) :
    voiceAt (syncPass c) v =
      { advance c v (voiceAt c v) with
        acc := 0
        lfsr := lfsrShift (advance c v (voiceAt c v)).lfsr (Spec.accAfterPass1 c (v + 2) / 2 ^ 28) } := by
  have hreset : (wrapped c (sourceVoice v) && sync c v && !test c v) = true := by
    simp [sourceVoice, wrapped_iff.mpr hsource, hsync, htest]
  rw [voiceAt_syncPass, syncVoice, if_pos hreset, advancePass_acc_toNat, Nat.shiftRight_eq_div_pow,
    voiceAt_advancePass, sourceVoice]

theorem syncPass_of_no_reset (h : test c v = true ∨ ¬ (sync c v = true ∧ Spec.Carries c (v + 2))) :
    voiceAt (syncPass c) v = advance c v (voiceAt c v) := by
  have hkeep : ¬ (wrapped c (sourceVoice v) && sync c v && !test c v) = true := by
    rw [Bool.and_eq_true, Bool.and_eq_true, sourceVoice, wrapped_iff]
    rintro ⟨⟨hsource, hsync⟩, htest⟩
    obtain h | h := h
    · simp [h] at htest
    · exact h ⟨hsync, hsource⟩
  rw [voiceAt_syncPass, syncVoice, if_neg hkeep, voiceAt_advancePass]

/-- A voice neither under TEST nor reset by its source steps on. -/
theorem tickChip_acc_toNat (htest : test c v = false) (h : ¬ (sync c v = true ∧ Spec.Carries c (v + 2))) :
    (voiceAt (tickChip c) v).acc.toNat = ((voiceAt c v).acc.toNat + (step32 c v).toNat) % 2 ^ 32 := by
  rw [tickChip_acc, syncPass_of_no_reset (.inr h), advance_acc_toNat htest]

end

/-- Settles O18, case by case of TEST and of the reset by the source voice. -/
theorem oscillatorOverATick : Obligations.OscillatorOverATick := by
  intro c v x y own
  refine ⟨fun htest => ?underTest, fun htest hsync hsource => ?reset, fun htest hkeep => ?running⟩
  case underTest =>
    have hy : voiceAt (syncPass c) v = { x with acc := 0, lfsr := lfsrSeed } :=
      (syncPass_of_no_reset (.inl htest)).trans (advance_of_test htest)
    exact ⟨tickChip_acc.trans (by rw [hy]), tickChip_lfsr.trans (by rw [hy]; rfl)⟩
  case reset =>
    have hy := syncPass_of_reset htest hsync hsource
    exact ⟨tickChip_acc.trans (by rw [hy]), _, advance_lfsr htest, tickChip_lfsr.trans (by rw [hy])⟩
  case running =>
    have hlfsr : y.lfsr = (advance c v x).lfsr := by rw [tickChip_lfsr, syncPass_of_no_reset (.inr hkeep)]
    exact ⟨tickChip_acc_toNat htest hkeep, hlfsr ▸ advance_lfsr htest⟩

end Sys2Proof.Machine
end

section
/-! The period of an accumulator (43_voice.md R99): after n ticks without TEST or reset it is `acc + n * STEP` modulo 2^32. -/

namespace Sys2Proof.Machine

/-- The premises of R99: neither TEST nor a sync reset stops the accumulator, at any tick from c on. -/
structure RunsFree (c : Chip) (v : VoiceId) : Prop where
  not_test : test c v = false
  no_reset : ∀ k, sync c v = true → ¬ Spec.Carries (ticks k c).2 (v + 2)

/-- A tick changes no register (R86), so TEST and SYNC stay, and the later ticks are among those from c on. -/
theorem RunsFree.tickChip {c : Chip} {v : VoiceId} (h : RunsFree c v) : RunsFree (tickChip c) v :=
  ⟨h.not_test, fun k => h.no_reset (k + 1)⟩

theorem step32_tickChip (c : Chip) (v : VoiceId) : step32 (tickChip c) v = step32 c v := by
  rw [tickChip_frame]
  rfl

theorem ticks_acc_toNat {c : Chip} {v : VoiceId} (h : RunsFree c v) (n : Nat) :
    (voiceAt (ticks n c).2 v).acc.toNat = ((voiceAt c v).acc.toNat + n * (step32 c v).toNat) % 2 ^ 32 := by
  induction n generalizing c with
  | zero => simp [ticks_zero, Nat.mod_eq_of_lt (voiceAt c v).acc.isLt]
  | succ n ih =>
    rw [ticks_succ, ih h.tickChip, tickChip_acc_toNat h.not_test (not_and.mpr (h.no_reset 0)), step32_tickChip,
      Nat.mod_add_mod, Nat.add_assoc, Nat.succ_mul, Nat.add_comm (n * _)]

/-- p steps of s add up to a multiple of m exactly when p is a multiple of `m / gcd m s`. -/
theorem dvd_mul_iff_div_gcd_dvd {m : Nat} (hm : 0 < m) (s p : Nat) : m ∣ p * s ↔ m / m.gcd s ∣ p := by
  rw [Nat.div_dvd_iff_dvd_mul (Nat.gcd_dvd_left m s) (Nat.gcd_pos_of_pos_left s hm), Nat.dvd_gcd_mul_iff_dvd_mul,
    Nat.mul_comm]

/-- p more ticks return the accumulator exactly when p steps add a multiple of 2^32. -/
theorem ticks_acc_eq_iff {c : Chip} {v : VoiceId} (h : RunsFree c v) (n p : Nat) :
    (voiceAt (ticks (n + p) c).2 v).acc = (voiceAt (ticks n c).2 v).acc ↔
      2 ^ 32 / Nat.gcd (2 ^ 32) (step32 c v).toNat ∣ p := by
  rw [← BitVec.toNat_inj, ticks_acc_toNat h, ticks_acc_toNat h, Nat.add_mul, ← Nat.add_assoc,
    ← dvd_mul_iff_div_gcd_dvd (by decide)]
  exact Nat.add_modEq_left_iff

/-- Settles O20: the ticks after which the accumulator returns are the multiples of the period. -/
theorem accumulatorIsPeriodic : Obligations.AccumulatorIsPeriodic := by
  intro c v htest hfree period
  have h : RunsFree c v := ⟨htest, hfree⟩
  refine ⟨fun n => (ticks_acc_eq_iff h n period).mpr dvd_rfl, fun p _ hreturn => ?_⟩
  rw [← Nat.zero_add p] at hreturn
  exact (ticks_acc_eq_iff h 0 p).mp hreturn

end Sys2Proof.Machine
end

section
/-! The waveforms of a voice (43_voice.md R94 to R98) in plain arithmetic, and their combination as a fold over the selected
generators. -/

namespace Sys2Proof.Machine

/-! ## The generators -/

/-- Both the fold on the sign bit and the ring bit invert the byte, so together they invert it on their xor (R94). -/
theorem triWave_eq (c : Chip) (v : VoiceId) :
    let t : Byte := (voiceAt c v).acc.extractLsb' 23 8
    triWave c v =
      if (voiceAt c v).acc.getLsbD 31 ^^ (ring c v && (voiceAt c (v + 2)).acc.getLsbD 31) then ~~~t else t := by
  have hsub (t : Byte) : 0xFF - t = ~~~t := BitVec.allOnes_sub_eq_not t
  have hxor (t : Byte) : t ^^^ 0xFF = ~~~t := BitVec.xor_allOnes
  intro t
  simp only [triWave, sourceVoice, hsub, hxor]
  cases (voiceAt c v).acc.getLsbD 31 <;> cases ring c v && (voiceAt c (v + 2)).acc.getLsbD 31 <;> simp [t]

/-- Settles O21: an inverted byte is 255 minus the byte. -/
theorem triangleFoldsOnSignAndRingBit : Obligations.TriangleFoldsOnSignAndRingBit := by
  intro c v fold t
  have ht : ((voiceAt c v).acc.extractLsb' 23 8).toNat = t := by
    rw [BitVec.extractLsb'_toNat, Nat.shiftRight_eq_div_pow]
  rw [triWave_eq, apply_ite BitVec.toNat, BitVec.toNat_not, ht]

/-- The top n bits of a word as a number. -/
theorem highPart_toNat {m n : Nat} (x : BitVec (m + n)) : (x.extractLsb' m n).toNat = x.toNat / 2 ^ m := by
  rw [BitVec.extractLsb'_toNat, Nat.shiftRight_eq_div_pow, Nat.mod_eq_of_lt]
  exact Nat.div_lt_of_lt_mul (by rw [← Nat.pow_add]; exact x.isLt)

theorem sawWave_toNat (c : Chip) (v : VoiceId) : (sawWave c v).toNat = (voiceAt c v).acc.toNat / 2 ^ 24 :=
  highPart_toNat (m := 24) (n := 8) _

theorem pulseWave_eq (c : Chip) (v : VoiceId) :
    pulseWave c v = if (pulseWidth c v).toNat ≤ (voiceAt c v).acc.toNat / 2 ^ 20 then 0xFF else 0x00 := by
  simp only [pulseWave, BitVec.le_def, highPart_toNat (m := 20) (n := 12)]

theorem noiseWave_getLsbD (c : Chip) (v : VoiceId) (i : Fin 8) :
    (noiseWave c v).getLsbD i = (voiceAt c v).lfsr.getLsbD ([2, 4, 7, 11, 13, 16, 20, 22].getD i 0) := by
  rw [noiseWave]
  iterate 7 rw [BitVec.getLsbD_append]
  fin_cases i <;> simp

/-- Settles O22: the generators one by one. -/
theorem sawPulseNoiseOfTheVoice : Obligations.SawPulseNoiseOfTheVoice :=
  fun c v => ⟨sawWave_toNat c v, pulseWave_eq c v, noiseWave_getLsbD c v⟩

/-! ## Their combination -/

/-- What a generator contributes to an AND: its byte where it is selected, else all ones. -/
def contribution (selected : Bool) (w : Byte) : Byte := if selected then w else 0xFF

theorem and_contribution (a : Byte) (selected : Bool) (w : Byte) :
    (if selected then [w] else []).foldl (· &&& ·) a = a &&& contribution selected w := by
  cases selected with
  | true => rfl
  | false => exact BitVec.and_allOnes.symm

theorem selectedWaves_eq_nil_iff (c : Chip) (v : VoiceId) :
    selectedWaves c v = [] ↔
      ¬ (triSelected c v || sawSelected c v || pulseSelected c v || noiseSelected c v) = true := by
  simp [selectedWaves, and_assoc]

/-- From all ones on, the fold over the selected generators is the AND of every generator's contribution. -/
theorem foldl_selectedWaves (c : Chip) (v : VoiceId) :
    (selectedWaves c v).foldl (· &&& ·) 0xFF =
      contribution (triSelected c v) (triWave c v) &&& contribution (sawSelected c v) (sawWave c v) &&&
        contribution (pulseSelected c v) (pulseWave c v) &&& contribution (noiseSelected c v) (noiseWave c v) := by
  have hones (w : Byte) : 0xFF &&& w = w := BitVec.allOnes_and
  simp only [selectedWaves, List.foldl_append, and_contribution, hones]

theorem wave8_of_nil {c : Chip} {v : VoiceId} (h : selectedWaves c v = []) : wave8 c v = 0 := by
  rw [wave8, h]

theorem wave8_of_ne_nil {c : Chip} {v : VoiceId} (h : selectedWaves c v ≠ []) :
    wave8 c v = (selectedWaves c v).foldl (· &&& ·) 0xFF := by
  obtain ⟨w, ws, hcons⟩ := List.exists_cons_of_ne_nil h
  have hones : 0xFF &&& w = w := BitVec.allOnes_and
  rw [wave8, hcons, List.foldl_cons, hones]

/-- Settles O23: with a generator selected the fold starts from all ones, which an AND does not see. -/
theorem waveformIsTheAndOfTheSelected : Obligations.WaveformIsTheAndOfTheSelected := by
  intro c v on
  split
  next hselected =>
    rw [wave8_of_ne_nil (mt (selectedWaves_eq_nil_iff c v).mp (not_not_intro hselected)), foldl_selectedWaves]
    rfl
  next hnone => exact wave8_of_nil ((selectedWaves_eq_nil_iff c v).mpr hnone)

end Sys2Proof.Machine
end

section
/-! The envelope over one tick (44_envelope.md R102 to R108) and its monotonicity (R110): the oscillator and the filter
leave it alone, the state rule moves counter and state, and the table index follows. -/

namespace Sys2Proof.Machine

section
variable {c : Chip} {v : VoiceId} {x : Voice}

/-! ## The passes around the envelope step -/

/-- Passes 1 and 2 leave the envelope of a voice alone. -/
theorem syncPass_frame (c : Chip) (v : VoiceId) :
    voiceAt (syncPass c) v =
      { voiceAt c v with acc := (voiceAt (syncPass c) v).acc, lfsr := (voiceAt (syncPass c) v).lfsr } := by
  rw [voiceAt_syncPass, syncVoice_frame, voiceAt_advancePass, advance_frame]

theorem syncPass_E : (voiceAt (syncPass c) v).E = (voiceAt c v).E := by rw [syncPass_frame]
theorem syncPass_env : (voiceAt (syncPass c) v).env = (voiceAt c v).env := by rw [syncPass_frame]
theorem syncPass_exp : (voiceAt (syncPass c) v).exp = (voiceAt c v).exp := by rw [syncPass_frame]

/-- The index rule moves nothing but the index. -/
theorem lutTick_frame (variant : Variant) (x : Voice) :
    lutTick variant x = { x with exp := (lutTick variant x).exp } := by
  unfold lutTick
  split <;> rfl

theorem tickChip_E : (voiceAt (tickChip c) v).E = (envStateTick c v (voiceAt (syncPass c) v)).E := by
  rw [voiceAt_tickChip, filterTick_frame, voiceAt_envPass, envStep, lutTick_frame]

theorem tickChip_env : (voiceAt (tickChip c) v).env = (envStateTick c v (voiceAt (syncPass c) v)).env := by
  rw [voiceAt_tickChip, filterTick_frame, voiceAt_envPass, envStep, lutTick_frame]

theorem tickChip_exp :
    (voiceAt (tickChip c) v).exp = (lutTick c.variant (envStateTick c v (voiceAt (syncPass c) v))).exp := by
  rw [voiceAt_tickChip, filterTick_exp, voiceAt_envPass, envStep]

/-! ## The rule of the voice's state -/

theorem envStateTick_of_attack (h : x.env = .attack) : envStateTick c v x = attackTick c v x := by
  rw [envStateTick, h]

theorem envStateTick_of_decay (h : x.env = .decay) : envStateTick c v x = decayTick c v x := by
  rw [envStateTick, h]

theorem envStateTick_of_release (h : x.env = .release) : envStateTick c v x = releaseTick c v x := by
  rw [envStateTick, h]

theorem envStateTick_of_hold (h : x.env = .sustain ∨ x.env = .idle) : envStateTick c v x = x := by
  obtain h | h := h <;> rw [envStateTick, h]

/-! ## Attack -/

theorem attackTick_E :
    (attackTick c v x).E.toNat =
      min (x.E.toNat + (attackStep c.variant c.sampleRate c.clockRate (attackRate c v)).toNat) 0x7FFFFFFF := by
  have hmax : envMax.toNat = 0x7FFFFFFF := rfl
  simp only [attackTick]
  split
  next hreached => exact (min_eq_right hreached).symm
  next hbelow =>
    rw [BitVec.toNat_ofNat, Nat.mod_eq_of_lt (by omega)]
    omega

theorem attackTick_env :
    (attackTick c v x).env =
      if 0x7FFFFFFF ≤ x.E.toNat + (attackStep c.variant c.sampleRate c.clockRate (attackRate c v)).toNat then .decay
      else x.env :=
  apply_ite Voice.env _ _ _

/-! ## Decay and Release -/

/-- What Decay and Release share: the difference e, clamped at the target, which ends the state. -/
def fallTo (target : EnvCounter) (after : EnvState) (e : Int) (x : Voice) : Voice :=
  if e ≤ target.toNat then { x with E := target, env := after } else { x with E := BitVec.ofInt 31 e }

/-- A difference between the target and the counter is a 31-bit number. -/
theorem fallTo_E (target : EnvCounter) (after : EnvState) {e : Int} (hfalls : e ≤ x.E.toNat) :
    ((fallTo target after e x).E.toNat : Int) = max e target.toNat := by
  unfold fallTo
  split
  next hreached => exact (max_eq_right hreached).symm
  next habove =>
    have hE := x.E.isLt
    rw [BitVec.toNat_ofInt, Int.toNat_of_nonneg (by omega), Int.emod_eq_of_lt (by omega) (by omega)]
    omega

theorem fallTo_env (target : EnvCounter) (after : EnvState) (e : Int) :
    (fallTo target after e x).env = if e ≤ target.toNat then after else x.env :=
  apply_ite Voice.env _ _ _

/-- The table's current shift, looked up as the statements do. -/
theorem decayShift_eq (variant : Variant) (exp : Nat) :
    decayShift variant exp =
      if exp = 0 then 0 else ((decayTable variant).map (fun row => row.2.val)).getD (exp - 1) 0 := by
  cases exp with
  | zero => rfl
  | succ j => simp [decayShift, List.getD_eq_getElem?_getD]

theorem fallStep_eq_fall (c : Chip) (rate : BitVec 4) (x : Voice) :
    (fallStep c rate x : Int) = Spec.fall c rate x.exp := by
  rw [fallStep, Nat.shiftRight_eq_div_pow, decayShift_eq, Spec.fall]

/-- A falling step is never negative. -/
theorem sub_fall_le (c : Chip) (rate : BitVec 4) (x : Voice) :
    (x.E.toNat : Int) - Spec.fall c rate x.exp ≤ x.E.toNat :=
  Int.sub_le_self _ (Int.natCast_nonneg _)

theorem decayTick_eq_fallTo :
    decayTick c v x =
      fallTo (sustainThreshold c v) .sustain (x.E.toNat - Spec.fall c (decayRate c v) x.exp) x := by
  rw [decayTick, fallStep_eq_fall, fallTo]

theorem releaseTick_eq_fallTo :
    releaseTick c v x = fallTo 0 .idle (x.E.toNat - Spec.fall c (releaseRate c v) x.exp) x := by
  rw [releaseTick, fallStep_eq_fall]
  rfl

theorem decayTick_E :
    ((decayTick c v x).E.toNat : Int) =
      max (x.E.toNat - Spec.fall c (decayRate c v) x.exp) (sustainThreshold c v).toNat := by
  rw [decayTick_eq_fallTo, fallTo_E _ _ (sub_fall_le c _ x)]

theorem decayTick_env :
    (decayTick c v x).env =
      if (x.E.toNat : Int) - Spec.fall c (decayRate c v) x.exp ≤ (sustainThreshold c v).toNat then .sustain
      else x.env := by
  rw [decayTick_eq_fallTo, fallTo_env]

theorem releaseTick_E :
    ((releaseTick c v x).E.toNat : Int) = max (x.E.toNat - Spec.fall c (releaseRate c v) x.exp) 0 := by
  rw [releaseTick_eq_fallTo, fallTo_E _ _ (sub_fall_le c _ x)]
  rfl

theorem releaseTick_env :
    (releaseTick c v x).env =
      if (x.E.toNat : Int) - Spec.fall c (releaseRate c v) x.exp ≤ 0 then .idle else x.env := by
  rw [releaseTick_eq_fallTo, fallTo_env]
  rfl

/-! ## The table index -/

theorem belowThreshold_iff :
    belowThreshold c.variant x = true ↔ Spec.IndexAdvances c x.exp x.E x.env := by
  unfold belowThreshold Spec.IndexAdvances lutK
  rw [List.getD_eq_getElem?_getD, List.getElem?_map]
  cases hrow : (decayTable c.variant)[x.exp]? with
  | none =>
    have hend : ¬ x.exp < (decayTable c.variant).length := by simpa using hrow
    simp [hend]
  | some row =>
    have hwithin : x.exp < (decayTable c.variant).length := (List.getElem?_eq_some_iff.mp hrow).1
    cases x.env <;> simp [hwithin, BitVec.lt_def]

theorem lutTick_of_advances (h : Spec.IndexAdvances c x.exp x.E x.env) :
    (lutTick c.variant x).exp = x.exp + 1 := by
  rw [lutTick, if_pos (belowThreshold_iff.mpr h)]

theorem lutTick_of_not_advances (h : ¬ Spec.IndexAdvances c x.exp x.E x.env) :
    (lutTick c.variant x).exp = x.exp := by
  rw [lutTick, if_neg (mt belowThreshold_iff.mp h)]

end

/-- Settles O24, state by state of the voice before the tick, then the index from the counter and state after it. -/
theorem envelopeOverATick : Obligations.EnvelopeOverATick := by
  intro c v x y up down target
  have hE : y.E = (envStateTick c v (voiceAt (syncPass c) v)).E := tickChip_E
  have henv : y.env = (envStateTick c v (voiceAt (syncPass c) v)).env := tickChip_env
  have hexp : (envStateTick c v (voiceAt (syncPass c) v)).exp = x.exp := (envStateTick_exp ..).trans syncPass_exp
  refine ⟨fun h => ?attack, fun h => ?decay, fun h => ?release, fun h => ?hold, fun h => ?advances, fun h => ?stays⟩
  case attack =>
    rw [hE, henv, envStateTick_of_attack (syncPass_env.trans h), attackTick_E, attackTick_env, syncPass_E, syncPass_env,
      h]
    exact ⟨rfl, rfl⟩
  case decay =>
    rw [hE, henv, envStateTick_of_decay (syncPass_env.trans h), decayTick_E, decayTick_env, syncPass_E, syncPass_env,
      syncPass_exp, h]
    exact ⟨rfl, rfl⟩
  case release =>
    rw [hE, henv, envStateTick_of_release (syncPass_env.trans h), releaseTick_E, releaseTick_env, syncPass_E,
      syncPass_env, syncPass_exp, h]
    exact ⟨rfl, rfl⟩
  case hold =>
    rw [hE, henv, envStateTick_of_hold (by rwa [syncPass_env])]
    exact ⟨syncPass_E, syncPass_env⟩
  case advances =>
    rw [hE, henv, ← hexp] at h
    exact tickChip_exp.trans ((lutTick_of_advances h).trans (by rw [hexp]))
  case stays =>
    rw [hE, henv, ← hexp] at h
    exact tickChip_exp.trans ((lutTick_of_not_advances h).trans hexp)

/-- Settles O25, from O24: no step is negative, and no clamp throws the counter back past where it stood. -/
theorem envelopeIsMonotonic : Obligations.EnvelopeIsMonotonic := by
  intro c v x y
  obtain ⟨hattack, hdecay, hrelease, hhold, -, -⟩ := envelopeOverATick c v
  refine ⟨fun h => ?attack, fun h => ?release, fun h hfrom => ?decay, fun h => (hhold h).1⟩
  case attack =>
    obtain ⟨hE, -⟩ := hattack h
    exact (le_min (Nat.le_add_right _ _) (Nat.le_of_lt_succ x.E.isLt)).trans_eq hE.symm
  case release =>
    obtain ⟨hE, -⟩ := hrelease h
    exact Int.ofNat_le.mp (hE.trans_le (max_le (sub_fall_le c _ x) (Int.natCast_nonneg _)))
  case decay =>
    obtain ⟨hE, -⟩ := hdecay h
    exact Int.ofNat_le.mp (hE.trans_le (max_le (sub_fall_le c _ x) (Int.ofNat_le.mpr hfrom)))

end Sys2Proof.Machine
end

section
/-! Voice scaling, the filter and the output mix over one tick (45_filter_mix.md R112 to R118): the filter reads the registers
and the integrators as they stood before the tick, and the signals after the envelope step. -/

namespace Sys2Proof.Machine

/-! ## The voice signal -/

theorem envLevel_toNat (c : Chip) (v : VoiceId) : (envLevel c v).toNat = (voiceAt c v).E.toNat / 2 ^ 23 :=
  highPart_toNat (m := 23) (n := 8) _

/-- The level is never negative, so the extremes of the product are those of the centred byte at the full level (R112). -/
theorem voiceOut_mem_range (c : Chip) (v : VoiceId) : -32640 ≤ voiceOut c v ∧ voiceOut c v ≤ 32385 := by
  have hwave := (wave8 c v).isLt
  have hlevel := (envLevel c v).isLt
  have hlow : -128 * ((envLevel c v).toNat : Int) ≤ voiceOut c v :=
    Int.mul_le_mul_of_nonneg_right (by omega) (Int.natCast_nonneg _)
  have hhigh : voiceOut c v ≤ 127 * ((envLevel c v).toNat : Int) :=
    Int.mul_le_mul_of_nonneg_right (by omega) (Int.natCast_nonneg _)
  omega

/-- Settles O26: the level of the definition is the counter's top 8 bits. -/
theorem voiceSignalAndItsRange : Obligations.VoiceSignalAndItsRange :=
  fun c v => ⟨by rw [voiceOut, envLevel_toNat], voiceOut_mem_range c v⟩

/-! ## The filter of a tick -/

theorem wrap32s_toInt (x : Int) : (wrap32s x).toInt = Spec.wrapSigned x :=
  BitVec.toInt_ofInt x

section
variable {c : Chip} {v : VoiceId}

theorem envPass_lo : (voiceAt (envPass c) v).lo = (voiceAt c v).lo := by
  rw [voiceAt_envPass, envStep_frame, syncPass_frame]

theorem envPass_ref : (voiceAt (envPass c) v).ref = (voiceAt c v).ref := by
  rw [voiceAt_envPass, envStep_frame, syncPass_frame]

/-- The filter step that a tick of chip `c` makes for voice `v` (R114), on the voice's signal after the envelope step. -/
def filterOfTick (c : Chip) (v : VoiceId) : FilterStep :=
  filterVoice (envPass c) (voiceOut (envPass c) v) v

theorem filterOfTick_eq :
    filterOfTick c v =
      filterStep (filterDy c.variant (cutoff c) c.sampleRate) (filterResDy c.variant (resonance c) (cutoff c) c.sampleRate)
        (voiceOut (envPass c) v) (voiceAt c v).lo (voiceAt c v).ref := by
  rw [filterOfTick, filterVoice, envPass_lo, envPass_ref]
  rfl

theorem filterOfTick_hp : (filterOfTick c v).hp.toInt = Spec.highPassOf c v := by
  rw [filterOfTick_eq, filterStep, wrap32s_toInt]
  rfl

theorem filterOfTick_ref : (filterOfTick c v).ref.toInt = Spec.refOf c v := by
  rw [Spec.refOf, ← filterOfTick_hp, filterOfTick_eq, filterStep, wrap32s_toInt]
  rfl

/-- The low-pass integrator is moved by the new band-pass integrator (R114). -/
theorem filterOfTick_lo : (filterOfTick c v).lo.toInt = Spec.loOf c v := by
  rw [Spec.loOf, ← filterOfTick_ref, filterOfTick_eq, filterStep, wrap32s_toInt]
  rfl

theorem filtered_envPass : filtered (envPass c) v = filtered c v := rfl

theorem tickChip_of_routed (hrouted : filtered c v = true) :
    voiceAt (tickChip c) v =
      { voiceAt (envPass c) v with lo := (filterOfTick c v).lo, ref := (filterOfTick c v).ref } := by
  rw [voiceAt_tickChip, filterTick, filtered_envPass, if_pos hrouted]
  rfl

theorem tickChip_of_unrouted (hunrouted : filtered c v = false) : voiceAt (tickChip c) v = voiceAt (envPass c) v := by
  rw [voiceAt_tickChip, filterTick, filtered_envPass, if_neg (by simp [hunrouted])]

end

/-- Settles O27: a routed voice takes the filter step of the tick, an unrouted one is left as the envelope step leaves it. -/
theorem integratorsOverATick : Obligations.IntegratorsOverATick := by
  refine fun c v => ⟨fun hrouted => ?_, fun hunrouted => ?_⟩
  · rw [tickChip_of_routed hrouted]
    exact ⟨filterOfTick_ref, filterOfTick_lo⟩
  · rw [tickChip_of_unrouted hunrouted]
    exact ⟨envPass_ref, envPass_lo⟩

/-! ## The mix and the output -/

theorem filterOut_of_tick (c : Chip) (v : VoiceId) :
    filterOut (envPass c) (filterOfTick c v) =
      (if lowPass c then Spec.loOf c v else 0) + (if bandPass c then Spec.refOf c v else 0) +
        (if highPass c then Spec.highPassOf c v else 0) := by
  rw [filterOut, filterOfTick_lo, filterOfTick_ref, filterOfTick_hp]
  rfl

/-- What a voice adds to the mix of a tick (R117). -/
theorem mixTerm_envPass (c : Chip) (v : VoiceId) : mixTerm (envPass c) v = Spec.mixed c v := by
  rw [Spec.mixed, ← filterOut_of_tick]
  rfl

/-- The clamped integer is a signed 16-bit number, so no bit of it is lost. -/
theorem clamp16_toInt (x : Int) : (clamp16 x).toInt = max (-32768) (min 32767 x) := by
  rw [clamp16, BitVec.toInt_ofInt, Int.bmod_eq_of_le (by omega) (by omega)]
  omega

/-- Settles O28: the registers that the mix and the output read are the same before and after the passes of the tick. -/
theorem sampleOfATick : Obligations.SampleOfATick := by
  intro c
  rw [tickSample, outputSample, clamp16_toInt, mixTerm_envPass, mixTerm_envPass, mixTerm_envPass]
  rfl

end Sys2Proof.Machine
end

section
/-! Idempotent silence (45_filter_mix.md R119): RESET makes a silent chip, a tick of one emits 0 and keeps it silent, so RENDER
does, under every calibration. -/

namespace Sys2Proof.Machine

section
variable {c : Chip}

theorem silent_resetChip (c : Chip) : Spec.Silent (resetChip c) where
  regs := rfl
  voices v := by
    rw [voiceAt_of_voices_eq (resetChip_voices c) v]
    exact ⟨rfl, rfl, rfl, rfl⟩
  queue := rfl

theorem regAt_of_silent (h : Spec.Silent c) (a : Fin 25) : regAt c a = 0 := by
  rw [regAt, h.regs, Vector.get_eq_getElem, Vector.getElem_replicate]

theorem filtered_of_silent (h : Spec.Silent c) (v : VoiceId) : filtered c v = false := by
  rw [filtered, regAt_of_silent h]
  exact BitVec.getLsbD_zero

theorem volume_of_silent (h : Spec.Silent c) : volume c = 0 := by
  rw [volume, regAt_of_silent h]
  rfl

/-- The volume of a silent chip is 0, whatever the mix is. -/
theorem tickSample_of_silent (h : Spec.Silent c) : tickSample c = 0 := by
  apply BitVec.eq_of_toInt_eq
  rw [sampleOfATick, volume_of_silent h]
  simp

/-- Idle holds the counter (R107), and an unrouted voice its integrators (R115). -/
theorem silent_tickChip (h : Spec.Silent c) : Spec.Silent (tickChip c) where
  regs := h.regs
  voices v := by
    obtain ⟨henv, hE, hlo, href⟩ := h.voices v
    obtain ⟨-, -, -, hhold, -, -⟩ := envelopeOverATick c v
    obtain ⟨hE', henv'⟩ := hhold (.inr henv)
    obtain ⟨href', hlo'⟩ := (integratorsOverATick c v).2 (filtered_of_silent h v)
    exact ⟨henv'.trans henv, hE'.trans hE, hlo'.trans hlo, href'.trans href⟩
  queue := h.queue

theorem ticks_of_silent (h : Spec.Silent c) (k : Nat) :
    (ticks k c).1 = List.replicate k 0 ∧ Spec.Silent (ticks k c).2 := by
  induction k generalizing c with
  | zero => exact ⟨rfl, h⟩
  | succ k ih =>
    obtain ⟨hstream, hchip⟩ := ih (silent_tickChip h)
    rw [ticks_succ, tickSample_of_silent h, hstream, List.replicate_succ]
    exact ⟨rfl, hchip⟩

/-- Without work RENDER leaves the chip; with an empty queue it ticks to the end of the buffer and resets the baseline, which
is no part of silence. -/
theorem exec_render_of_silent {s : State} (h : Spec.Silent s.chip) (n : Arg) :
    ∃ t, exec (.render n) s = .next t ∧ t.result = .samples (List.replicate n.toInt.toNat 0) ∧ Spec.Silent t.chip := by
  obtain ⟨hnone, hinert⟩ := renderWithoutWork n s
  obtain hcount | hcount := le_or_gt n.toInt 0
  · refine ⟨_, hnone hcount, ?_, h⟩
    rw [Int.toNat_of_nonpos hcount]
    rfl
  · by_cases hunset : s.chip.sampleRate = 0 ∨ s.chip.clockRate = 0
    · exact ⟨_, hinert hcount hunset, rfl, h⟩
    · obtain ⟨hstream, hchip⟩ := ticks_of_silent h n.toInt.toNat
      exact ⟨_, renderOfAnEmptyQueueFreeRuns n s hcount (by omega) (by omega) h.queue,
        congrArg Result.samples hstream, { hchip with }⟩

end

/-- Settles O39: RESET makes a silent chip, and RENDER keeps one. -/
theorem silenceStaysSilent : Obligations.SilenceStaysSilent := by
  refine ⟨fun s t hexec => ?_, fun n s hsilent => exec_render_of_silent hsilent n⟩
  obtain rfl := Host.Outcome.next.inj hexec
  exact silent_resetChip s.chip

end Sys2Proof.Machine
end

section
/-! FLUSH and the two rate commands (46_control.md R121 to R123). -/

namespace Sys2Proof.Machine

/-! ## FLUSH -/

/-- APPLY does not read the queue, so popping each write before applying it comes to emptying the queue at the end. -/
theorem flushLoop_eq_applyWrites (q : List Entry) (c : Chip) (hqueue : c.queue = q) :
    flushLoop q c = { applyWrites q c with queue := [] } := by
  induction q generalizing c with
  | nil => exact (Chip.setQueue_self hqueue).symm
  | cons e rest ih =>
    rw [flushLoop, ih (applyFront e c) (by simp [hqueue]), applyFront_eq, applyWrites_setQueue, applyWrites_cons]

/-- Settles O44: the flush loop, started on the chip's own queue. -/
theorem flushAppliesEveryWrite : Obligations.FlushAppliesEveryWrite := by
  intro c
  rw [flush, flushLoop_eq_applyWrites c.queue c rfl]
  rfl

/-! ## The rates -/

theorem validSampleRate_iff (r : Int) : validSampleRate r = true ↔ 1 ≤ r ∧ r ≤ 2147483647 := by
  simp [validSampleRate]

theorem validClockRate_iff (r : Int) : validClockRate r = true ↔ 1 ≤ r := by
  simp [validClockRate]

theorem setOutputRate_of_valid {r : Int} (hlow : 1 ≤ r) (hhigh : r ≤ 2147483647) (s : State) :
    setOutputRate r s = (s.setChip { flush s.chip with sampleRate := r.toNat }).finish (.status .ok) :=
  if_pos ((validSampleRate_iff r).mpr ⟨hlow, hhigh⟩)

theorem setOutputRate_of_invalid {r : Int} (hinvalid : r < 1 ∨ 2147483647 < r) (s : State) :
    setOutputRate r s = (s.setChip { flush s.chip with sampleRate := 0 }).finish (.status .configInvalid) := by
  have hrejected : ¬ validSampleRate r = true := by
    rw [validSampleRate_iff]
    omega
  exact if_neg hrejected

theorem setClockRate_of_valid {r : Int} (hlow : 1 ≤ r) (s : State) :
    setClockRate r s = (s.setChip { flush s.chip with clockRate := r.toNat }).finish (.status .ok) :=
  if_pos ((validClockRate_iff r).mpr hlow)

theorem setClockRate_of_invalid {r : Int} (hinvalid : r < 1) (s : State) :
    setClockRate r s = (s.setChip { flush s.chip with clockRate := 0 }).finish (.status .configInvalid) :=
  if_neg (mt (validClockRate_iff r).mp hinvalid.not_ge)

/-- Settles O45, one lemma for each side of the range. (The plain name is the model's operation.) -/
theorem setOutputRateCommand : Obligations.SetOutputRate :=
  fun _ s =>
    ⟨fun hlow hhigh => congrArg Host.Outcome.next (setOutputRate_of_valid hlow hhigh s),
      fun hinvalid => congrArg Host.Outcome.next (setOutputRate_of_invalid hinvalid s)⟩

/-- Settles O46, one lemma for each side of the bound. (The plain name is the model's operation.) -/
theorem setClockRateCommand : Obligations.SetClockRate :=
  fun _ s =>
    ⟨fun hlow => congrArg Host.Outcome.next (setClockRate_of_valid hlow s),
      fun hinvalid => congrArg Host.Outcome.next (setClockRate_of_invalid hinvalid s)⟩

end Sys2Proof.Machine
end

section
/-! The snapshot (46_control.md R124 to R127): a chip and its blob carry the same fields, so SAVE_STATE and LOAD_STATE undo each
other. -/

namespace Sys2Proof.Machine

/-! ## Numbers with a width, as a blob carries them -/

theorem toNat_ofInt_of_unsigned {n : Nat} {x : Int} (h : Spec.Unsigned n x) : ((BitVec.ofInt n x).toNat : Int) = x := by
  obtain ⟨hnonneg, hlt⟩ := h
  have hwraps : x % ((2 ^ n : Nat) : Int) = x := Int.emod_eq_of_lt hnonneg (by exact_mod_cast hlt)
  rw [BitVec.toNat_ofInt, hwraps, Int.toNat_of_nonneg hnonneg]

theorem toInt_ofInt_of_signed {n : Nat} {x : Int} (h : Spec.Signed n x) : (BitVec.ofInt (n + 1) x).toInt = x :=
  BitVec.toInt_ofInt_eq_self (Nat.succ_pos n) h.1 h.2

theorem unsigned_toNat {n : Nat} (x : BitVec n) : Spec.Unsigned n (x.toNat : Int) :=
  ⟨Int.natCast_nonneg _, by exact_mod_cast x.isLt⟩

theorem signed_toInt {n : Nat} (x : BitVec (n + 1)) : Spec.Signed n x.toInt :=
  ⟨x.le_toInt, x.toInt_lt⟩

/-! ## From a chip to its blob and back -/

@[simp] theorem Voice.toVoice_toBlob (x : Voice) : x.toBlob.toVoice = x := by
  simp [Voice.toBlob, BlobVoice.toVoice]

@[simp] theorem Entry.toEntry_toBlob (e : Entry) : e.toBlob.toEntry = e := by
  simp [Entry.toBlob, BlobEntry.toEntry]

@[simp] theorem voicesOf_toBlob (vs : Voices) : voicesOf [vs.v0.toBlob, vs.v1.toBlob, vs.v2.toBlob] = vs := by
  simp [voicesOf]

@[simp] theorem regsOf_toBlob (regs : Vector Byte 25) : regsOf (regs.toList.map (fun b => (b.toNat : Int))) = regs := by
  apply Vector.toList_inj.mp
  simp [regsOf, Function.comp_def]

/-- Every field of the chip is a field of its snapshot (R124). -/
theorem toChip_snapshot (c : Chip) : (snapshot c).toChip = c := by
  simp [snapshot, Blob.toChip, Function.comp_def]

/-! ## From a valid blob to its chip and back -/

theorem BlobVoice.toBlob_toVoice {variant : Variant} {x : BlobVoice} (h : x.valid variant = true) :
    x.toVoice.toBlob = x := by
  obtain ⟨hacc, hlfsr, hE, ⟨hexp, -⟩, hlo, href⟩ := (blobVoice_valid_iff variant x).mp h
  rw [Voice.toBlob, BlobVoice.toVoice]
  simp only [toNat_ofInt_of_unsigned hacc, toNat_ofInt_of_unsigned hlfsr, toNat_ofInt_of_unsigned hE,
    Int.toNat_of_nonneg hexp, toInt_ofInt_of_signed hlo, toInt_ofInt_of_signed href]

theorem BlobEntry.toBlob_toEntry {e : BlobEntry} (h : e.valid = true) : e.toEntry.toBlob = e := by
  obtain ⟨haddr, hvalue, hdelta⟩ := (blobEntry_valid_iff e).mp h
  rw [Entry.toBlob, BlobEntry.toEntry]
  simp only [toNat_ofInt_of_unsigned haddr, toNat_ofInt_of_unsigned hvalue, Int.toNat_of_nonneg hdelta]

theorem toBlob_voicesOf {variant : Variant} {l : List BlobVoice} (hthree : l.length = 3)
    (hvalid : ∀ x ∈ l, x.valid variant = true) :
    [(voicesOf l).v0.toBlob, (voicesOf l).v1.toBlob, (voicesOf l).v2.toBlob] = l := by
  obtain ⟨x, y, z, rfl⟩ := List.length_eq_three.mp hthree
  simp only [List.forall_mem_cons] at hvalid
  obtain ⟨hx, hy, hz, -⟩ := hvalid
  simp [voicesOf, BlobVoice.toBlob_toVoice hx, BlobVoice.toBlob_toVoice hy, BlobVoice.toBlob_toVoice hz]

theorem toBlob_toEntry_map {q : List BlobEntry} (hvalid : ∀ e ∈ q, e.valid = true) :
    (q.map BlobEntry.toEntry).map Entry.toBlob = q := by
  rw [List.map_map]
  exact (List.map_congr_left fun e he => BlobEntry.toBlob_toEntry (hvalid e he)).trans q.map_id

theorem toNat_regsOf {l : List Int} (hcount : l.length = 25) (hbytes : ∀ r ∈ l, Spec.Unsigned 8 r) :
    (regsOf l).toList.map (fun b => (b.toNat : Int)) = l := by
  have hlist : (regsOf l).toList = l.map (BitVec.ofInt 8) := by simp [regsOf, hcount]
  rw [hlist, List.map_map]
  exact (List.map_congr_left fun r hr => toNat_ofInt_of_unsigned (hbytes r hr)).trans l.map_id

/-- The widths that `VALID(b)` asks for are those at which the chip holds its fields (R126). -/
theorem snapshot_toChip {b : Blob} {c : Chip} (h : Spec.ValidBlob b c) : snapshot b.toChip = b := by
  obtain ⟨-, hqcap, -, hentries, ⟨hthree, hvoices⟩, ⟨hcount, hregs⟩, hlatch, ⟨hfrac, -, -⟩, ⟨hsample, hclock⟩, hcycle,
    hoverflow⟩ := h
  have hqcap' : 0 ≤ b.qcap := by omega
  have hqueue := toBlob_toEntry_map fun e he => (blobEntry_valid_iff e).mpr (hentries e he)
  have hthreeVoices := toBlob_voicesOf hthree fun x hx => (blobVoice_valid_iff c.variant x).mpr (hvoices x hx)
  rw [snapshot, Blob.toChip]
  simp only [hqueue, hthreeVoices, toNat_regsOf hcount hregs, toNat_ofInt_of_unsigned hlatch,
    toInt_ofInt_of_signed hcycle, Int.toNat_of_nonneg, hqcap', hsample, hclock, hfrac, hoverflow]

/-! ## SAVE_STATE and LOAD_STATE -/

/-- Settles O47: `finish` moves the outcome alone. -/
theorem saveStateReturnsTheSnapshot : Obligations.SaveStateReturnsTheSnapshot :=
  fun _ => rfl

theorem exec_loadState_of_valid {b : Blob} {s : State} (hvalid : Spec.ValidBlob b s.chip) :
    exec (.loadState (some b)) s = .next ((s.setChip b.toChip).finish .none) :=
  if_pos ((blob_valid_iff b s.chip).mpr hvalid)

theorem exec_loadState_of_invalid {b : Blob} {s : State} (hinvalid : ¬ Spec.ValidBlob b s.chip) :
    exec (.loadState (some b)) s = .next (raiseFault s .badStateBlob (commandWord 8 0 0) 0) :=
  if_neg (mt (blob_valid_iff b s.chip).mp hinvalid)

theorem exec_loadState_none (s : State) :
    exec (.loadState none) s = .next (raiseFault s .badStateBlob (commandWord 8 0 0) 0) := rfl

/-- Settles O48: a valid blob is the snapshot of the chip it stands for; the recorded word, `commandWord 8 0 0`, evaluates to
0x00000008. -/
theorem loadState : Obligations.LoadState := by
  refine ⟨fun b s hvalid => ⟨b.toChip, snapshot_toChip hvalid, exec_loadState_of_valid hvalid⟩,
    fun blob s hinvalid => ?refused⟩
  cases blob with
  | none => exact exec_loadState_none s
  | some b => exact exec_loadState_of_invalid (hinvalid b rfl)

/-! ## The round trip -/

theorem blobVoice_valid_toBlob {variant : Variant} {x : Voice} (hexp : x.exp ≤ lutK variant) :
    x.toBlob.valid variant = true :=
  (blobVoice_valid_iff variant x.toBlob).mpr
    ⟨unsigned_toNat x.acc, unsigned_toNat x.lfsr, unsigned_toNat x.E, ⟨Int.natCast_nonneg _, Int.ofNat_le.mpr hexp⟩,
      signed_toInt x.lo, signed_toInt x.ref⟩

theorem blobEntry_valid_toBlob (e : Entry) : e.toBlob.valid = true :=
  (blobEntry_valid_iff e.toBlob).mpr ⟨unsigned_toNat e.addr, unsigned_toNat e.value, Int.natCast_nonneg _⟩

/-- Soundness is what `VALID(b)` asks beyond the widths, for any chip of the same configuration. -/
theorem validBlob_snapshot {c d : Chip} (h : c.Sound) (hvariant : d.variant = c.variant) (hqcap : d.qcap = c.qcap) :
    Spec.ValidBlob (snapshot c) d where
  variant := hvariant.symm
  qcap := congrArg Nat.cast hqcap.symm
  queue_within := by
    rw [hqcap]
    simpa [snapshot] using h.queue_within
  entries := by
    intro e he
    obtain ⟨e, -, rfl⟩ := List.mem_map.mp he
    exact (blobEntry_valid_iff _).mp (blobEntry_valid_toBlob e)
  voices := by
    have hvoice (v : VoiceId) := (blobVoice_valid_iff _ _).mp (blobVoice_valid_toBlob (h.index_within v))
    rw [hvariant]
    refine ⟨rfl, List.forall_mem_cons.mpr ⟨hvoice 0, List.forall_mem_cons.mpr ⟨hvoice 1, ?_⟩⟩⟩
    exact List.forall_mem_singleton.mpr (hvoice 2)
  regs := by
    refine ⟨by simp [snapshot], fun r hr => ?_⟩
    obtain ⟨r, -, rfl⟩ := List.mem_map.mp hr
    exact unsigned_toNat r
  latch := unsigned_toNat c.latch
  frac := by
    have hset := h.frac_within
    have hunset := h.frac_unset
    simp only [snapshot]
    omega
  rates := ⟨Int.natCast_nonneg _, Int.natCast_nonneg _⟩
  lastWriteCycle := signed_toInt c.lastWriteCycle
  overflowCount := Int.natCast_nonneg _

/-- Settles O49: the snapshot is valid for the machine that loads it, and its chip is the one saved. -/
theorem snapshotRoundTrip : Obligations.SnapshotRoundTrip := by
  intro s u hsound hvariant hqcap
  rw [exec_loadState_of_valid (validBlob_snapshot hsound hvariant hqcap), toChip_snapshot]
  rfl

end Sys2Proof.Machine
end

section
/-! What a command can depend on (46_control.md R127, 43_voice.md R100): forgetting everything of a machine but its chip and its
counter of free bytes (log 4) changes nothing of what a command does to the chip, returns, or draws. -/

namespace Sys2Proof.Machine

/-- The machine with its records, its last outcome and its pending commands emptied: what is left is the chip and the counter
of free bytes. -/
def State.forget (s : State) : State :=
  { s with fault := [], diag := [], result := .none, pending := [] }

@[simp] theorem State.forget_chip (s : State) : s.forget.chip = s.chip := rfl

@[simp] theorem State.forget_drawn (s : State) : s.forget.drawn = s.drawn := rfl

theorem State.forget_eq_forget {s s' : State} (hchip : s.chip = s'.chip) (hdrawn : s.drawn = s'.drawn) :
    s.forget = s'.forget := by
  rw [State.forget, State.forget, hchip, hdrawn]

/-- What a command leaves of the chip, returns, and leaves of the counter of free bytes. -/
def State.visible (s : State) : Chip × Result × Nat := (s.chip, s.result, s.drawn)

theorem State.visible_eq_iff {t t' : State} :
    t.visible = t'.visible ↔ t.chip = t'.chip ∧ t.result = t'.result ∧ t.drawn = t'.drawn := by
  simp [State.visible]

/-- The visible part of an outcome that is a next state. -/
def visibleOf : Out → Option (Chip × Result × Nat)
  | .next t => some t.visible
  | .fault _ | .refused _ => none

theorem visibleOf_next (t : State) : visibleOf (.next t) = some t.visible := rfl

/-- What R127 asks of a command in one state: it does the same there as where all but the chip and the counter is forgotten. -/
def Forgetful (f : State → Out) (s : State) : Prop :=
  visibleOf (f s) = visibleOf (f s.forget)

theorem forgetful_next {f : State → State} {s : State} (h : (f s).visible = (f s.forget).visible) :
    Forgetful (fun s => .next (f s)) s :=
  congrArg some h

/-! ## The commands -/

/-- Whether a queue has room is a matter of the chip; the dropped write goes to the diagnostic output, which is forgotten. -/
theorem enqueue_visible_forget (s : State) (e : Entry) (r : Result) :
    ((enqueue s e).finish r).visible = ((enqueue s.forget e).finish r).visible := by
  obtain hfull | hroom := eq_or_ne s.chip.queue.length s.chip.qcap
  · rw [enqueue_of_full hfull, enqueue_of_full (s := s.forget) hfull]
    rfl
  · rw [enqueue_of_room hroom, enqueue_of_room (s := s.forget) hroom]
    rfl

theorem regWrite_visible_forget (addr data : Byte) (cycle : Arg) (s : State) :
    (regWrite addr data cycle s).visible = (regWrite addr data cycle s.forget).visible := by
  obtain ⟨a, rfl⟩ | hclass := addr_cases addr
  · cases hactive : active s.chip with
    | false =>
      rw [regWrite_of_inert hactive, regWrite_of_inert (s := s.forget) hactive]
      rfl
    | true =>
      rw [regWrite_of_active hactive, regWrite_of_active (s := s.forget) hactive]
      exact enqueue_visible_forget _ _ _
  · have hout := outside_of_class hclass
    rw [regWrite_of_outside hout, regWrite_of_outside hout]
    rfl

/-- The free byte is drawn at the counter, which is not forgotten. -/
theorem regRead_visible_forget (addr : Byte) (s : State) :
    (regRead addr s).visible = (regRead addr s.forget).visible := by
  simp only [regRead_eq, State.forget_chip]
  split_ifs <;> rfl

theorem render_visible_forget (n : Int) (s : State) : (render n s).visible = (render n s.forget).visible := by
  obtain hcount | hcount := le_or_gt n 0
  · rw [render_of_nonpos hcount, render_of_nonpos hcount]
    rfl
  · cases hactive : active s.chip with
    | false =>
      rw [render_of_inert hcount hactive, render_of_inert (s := s.forget) hcount hactive]
      rfl
    | true =>
      rw [render_of_active hcount hactive, render_of_active (s := s.forget) hcount hactive]
      rfl

theorem setOutputRate_visible_forget (r : Int) (s : State) :
    (setOutputRate r s).visible = (setOutputRate r s.forget).visible := by
  unfold setOutputRate
  split_ifs <;> rfl

theorem setClockRate_visible_forget (r : Int) (s : State) :
    (setClockRate r s).visible = (setClockRate r s.forget).visible := by
  unfold setClockRate
  split_ifs <;> rfl

theorem exec_loadState_forgetful (blob : Option Blob) (s : State) : Forgetful (exec (.loadState blob)) s := by
  cases blob with
  | none => rfl
  | some b =>
    by_cases hvalid : Spec.ValidBlob b s.chip
    · rw [Forgetful, exec_loadState_of_valid hvalid, exec_loadState_of_valid (s := s.forget) hvalid]
      rfl
    · rw [Forgetful, exec_loadState_of_invalid hvalid, exec_loadState_of_invalid (s := s.forget) hvalid]
      rfl

theorem exec_qEnqueue_forgetful (addr data : Byte) (delta : Arg) (s : State) :
    Forgetful (exec (.qEnqueue addr data delta)) s := by
  obtain hneg | hnonneg := lt_or_ge delta.toInt 0
  · rw [Forgetful, exec_qEnqueue_of_neg hneg, exec_qEnqueue_of_neg hneg]
    rfl
  · rw [Forgetful, exec_qEnqueue_of_nonneg hnonneg, exec_qEnqueue_of_nonneg hnonneg]
    exact congrArg some (enqueue_visible_forget s _ _)

theorem exec_qFront_forgetful (s : State) : Forgetful (exec .qFront) s := by
  cases hqueue : s.chip.queue with
  | nil =>
    rw [Forgetful, exec_qFront_of_nil hqueue, exec_qFront_of_nil (s := s.forget) hqueue]
    rfl
  | cons e rest =>
    rw [Forgetful, exec_qFront_of_cons hqueue, exec_qFront_of_cons (s := s.forget) hqueue]
    rfl

/-- RESET, SAVE_STATE, Q_DEQUEUE, Q_SIZE, Q_TOTAL and the reserved rows do not branch, so both sides evaluate to the same. -/
theorem exec_forgetful (i : Instr) (s : State) : Forgetful (exec i) s := by
  obtain ⟨addr, data, cycle, hexec⟩ | ⟨addr, hexec⟩ | ⟨n, rfl⟩ | ⟨r, rfl⟩ | ⟨r, rfl⟩ | rfl | rfl | ⟨blob, rfl⟩ |
    ⟨addr, data, delta, rfl⟩ | rfl | rfl | rfl | rfl | ⟨rest, rfl⟩ | ⟨rest, rfl⟩ | ⟨rest, rfl⟩ := exec_cases i
  · rw [funext hexec]
    exact forgetful_next (regWrite_visible_forget addr data cycle s)
  · rw [funext hexec]
    exact forgetful_next (regRead_visible_forget addr s)
  · exact forgetful_next (render_visible_forget n.toInt s)
  · exact forgetful_next (setOutputRate_visible_forget r.toInt s)
  · exact forgetful_next (setClockRate_visible_forget r.toInt s)
  · exact forgetful_next rfl
  · exact forgetful_next rfl
  · exact exec_loadState_forgetful blob s
  · exact exec_qEnqueue_forgetful addr data delta s
  · exact forgetful_next rfl
  · exact exec_qFront_forgetful s
  all_goals exact forgetful_next rfl

/-- Settles O50: two machines with equal chips and counters are one machine once the rest is forgotten. -/
theorem commandsDependOnTheSnapshotAlone : Obligations.CommandsDependOnTheSnapshotAlone := by
  intro i s s' t t' hchip hdrawn hexec hexec'
  have hvisible : visibleOf (exec i s) = visibleOf (exec i s') :=
    calc visibleOf (exec i s)
      _ = visibleOf (exec i s.forget) := exec_forgetful i s
      _ = visibleOf (exec i s'.forget) := by rw [State.forget_eq_forget hchip hdrawn]
      _ = visibleOf (exec i s') := (exec_forgetful i s').symm
  rw [hexec, hexec', visibleOf_next, visibleOf_next] at hvisible
  exact State.visible_eq_iff.mp (Option.some.inj hvisible)

end Sys2Proof.Machine
end

section
/-! RESET and power-on (70_reset_and_hazards.md R143, R144). -/

namespace Sys2Proof.Machine

/-- Settles O51: RESET moves the chip and the outcome alone, and its three voices are the reset voice. -/
theorem resetCommand : Obligations.ResetCommand := by
  intro s
  refine ⟨(s.setChip (resetChip s.chip)).finish .none, rfl, rfl, rfl, fun v => ?voice⟩
  exact voiceAt_of_voices_eq (resetChip_voices s.chip) v

theorem powerOn_of_accepted {variant : Variant} {q : Int} (hvariant : variant ∈ Config.supportedVariants)
    (hcapacity : 1 ≤ q) : powerOn variant q = (.ok, some (State.powered variant q.toNat)) :=
  if_pos ⟨hvariant, hcapacity⟩

theorem powerOn_of_refused {variant : Variant} {q : Int} (h : variant ∉ Config.supportedVariants ∨ q < 1) :
    powerOn variant q = (.configInvalid, none) := by
  refine if_neg fun ⟨hvariant, hcapacity⟩ => ?_
  obtain hunsupported | hbelow := h
  · exact hunsupported hvariant
  · exact Int.not_lt.mpr hcapacity hbelow

theorem voiceAt_initial (variant : Variant) (qcap : Nat) (v : VoiceId) :
    voiceAt (Chip.initial variant qcap) v = Voice.initial :=
  voiceAt_of_voices_eq rfl v

/-- Settles O52: the two sides of POWER_ON's condition, then the rule's example and the arguments of Config as cases of
the accepted side. (The plain name is the model's operation.) -/
theorem powerOnConstruction : Obligations.PowerOn := by
  refine ⟨fun variant q => powerOn_of_refused, fun variant q hvariant hcapacity => ?accepted, ?tc, ?reset⟩
  case accepted =>
    refine ⟨State.powered variant q.toNat, powerOn_of_accepted hvariant hcapacity, rfl, ?capacity, rfl, rfl, rfl, rfl,
      voiceAt_initial variant q.toNat, rfl, rfl, rfl, rfl, rfl⟩
    exact Int.toNat_of_nonneg (Int.le_of_lt hcapacity)
  case tc =>
    have hsupported : Variant.tc ∈ Config.supportedVariants := by simp [Config.supportedVariants]
    exact powerOn_of_accepted hsupported (by decide)
  case reset =>
    have hsupported : Config.powerOnVariant ∈ Config.supportedVariants := by simp [Config.supportedVariants]
    have hpositive : (1 : Int) ≤ Config.queueCapacity := by simp [Config.queueCapacity]
    exact powerOn_of_accepted hsupported hpositive

end Sys2Proof.Machine
end

section
/-! What a command answers (60_exceptions.md R128, R130 to R132, R134): every command has a next state, and either raises one
fault and does nothing else, or keeps the fault record and reports at most one dropped write. -/

namespace Sys2Proof.Machine

/-- The diagnostic output is kept, or one event longer, and then one more write was lost (R134). -/
def ReportsAtMostOneDrop (s t : State) : Prop :=
  t.diag = s.diag ∨ ∃ e, t.diag = s.diag ++ [e] ∧ t.chip.overflowCount = s.chip.overflowCount + 1

/-- What a command run on `s` may leave. -/
inductive CommandAnswer (s t : State) : Prop where
  /-- no fault: the fault record is kept -/
  | finishes (hresult : ∀ e, t.result ≠ .faulted e) (hfault : t.fault = s.fault) (hdiag : ReportsAtMostOneDrop s t)
  /-- a fault: raised on `s` itself -/
  | faults (code : FaultCode) (cw : CommandWord) (arg : Arg) (hraise : t = raiseFault s code cw arg)

/-- An outcome that is a next state, one that a command may leave. -/
def Answers (s : State) (o : Out) : Prop :=
  ∃ t, o = .next t ∧ CommandAnswer s t

section
variable {s : State}

theorem answers_raiseFault (code : FaultCode) (cw : CommandWord) (arg : Arg) :
    Answers s (.next (raiseFault s code cw arg)) :=
  ⟨_, rfl, .faults code cw arg rfl⟩

/-- Replacing the chip and ending with a result touches neither record. -/
theorem answers_setChip_finish (c : Chip) {r : Result} (hresult : ∀ e, r ≠ .faulted e) :
    Answers s (.next ((s.setChip c).finish r)) :=
  ⟨_, rfl, .finishes hresult rfl (.inl rfl)⟩

theorem answers_finish {r : Result} (hresult : ∀ e, r ≠ .faulted e) : Answers s (.next (s.finish r)) :=
  answers_setChip_finish s.chip hresult

/-- Only a full queue reports, and it counts the write it drops (R57). -/
theorem answers_enqueue {c : Chip} (hcount : c.overflowCount = s.chip.overflowCount) (e : Entry) :
    Answers s (.next ((enqueue (s.setChip c) e).finish .none)) := by
  obtain ⟨-, h⟩ | ⟨-, h⟩ := enqueue_cases (s.setChip c) e <;> rw [h]
  · exact ⟨_, rfl, .finishes nofun rfl (.inr ⟨_, rfl, congrArg (· + 1) hcount⟩)⟩
  · exact ⟨_, rfl, .finishes nofun rfl (.inl rfl)⟩

/-! ## The commands -/

theorem regWrite_answers (addr data : Byte) (cycle : Arg) (s : State) :
    Answers s (.next (regWrite addr data cycle s)) := by
  obtain ⟨-, h⟩ | ⟨-, h⟩ | ⟨-, h⟩ := regWrite_cases addr data cycle s <;> rw [h]
  · exact answers_finish nofun
  · exact answers_enqueue (by rfl) _
  · exact answers_setChip_finish _ nofun

theorem regRead_answers (addr : Byte) (s : State) : Answers s (.next (regRead addr s)) := by
  obtain ⟨b, h⟩ | h := regRead_cases addr s <;> rw [h]
  · exact answers_finish nofun
  · exact ⟨_, rfl, .finishes nofun rfl (.inl rfl)⟩

theorem render_answers (n : Int) (s : State) : Answers s (.next (render n s)) := by
  obtain ⟨-, h⟩ | ⟨-, h⟩ | ⟨-, h⟩ := render_cases n s <;> rw [h]
  · exact answers_finish nofun
  · exact answers_finish nofun
  · exact answers_setChip_finish _ nofun

/-- A refused rate is a status, no fault (R129). -/
theorem setOutputRate_answers (r : Int) (s : State) : Answers s (.next (setOutputRate r s)) := by
  unfold setOutputRate
  split <;> exact answers_setChip_finish _ nofun

theorem setClockRate_answers (r : Int) (s : State) : Answers s (.next (setClockRate r s)) := by
  unfold setClockRate
  split <;> exact answers_setChip_finish _ nofun

theorem exec_loadState_answers (blob : Option Blob) (s : State) : Answers s (exec (.loadState blob) s) := by
  cases blob with
  | none =>
    rw [exec_loadState_none]
    exact answers_raiseFault _ _ _
  | some b =>
    by_cases hvalid : Spec.ValidBlob b s.chip
    · rw [exec_loadState_of_valid hvalid]
      exact answers_setChip_finish _ nofun
    · rw [exec_loadState_of_invalid hvalid]
      exact answers_raiseFault _ _ _

theorem exec_qEnqueue_answers (addr data : Byte) (delta : Arg) (s : State) :
    Answers s (exec (.qEnqueue addr data delta) s) := by
  obtain hneg | hnonneg := lt_or_ge delta.toInt 0
  · rw [exec_qEnqueue_of_neg hneg]
    exact answers_raiseFault _ _ _
  · rw [exec_qEnqueue_of_nonneg hnonneg]
    exact answers_enqueue (c := s.chip) rfl ⟨addr, data, delta.toInt.toNat⟩

theorem exec_qFront_answers (s : State) : Answers s (exec .qFront s) := by
  cases hqueue : s.chip.queue with
  | nil =>
    rw [exec_qFront_of_nil hqueue]
    exact answers_raiseFault _ _ _
  | cons e rest =>
    rw [exec_qFront_of_cons hqueue]
    exact answers_finish nofun

theorem exec_answers (i : Instr) (s : State) : Answers s (exec i s) := by
  obtain ⟨addr, data, cycle, hexec⟩ | ⟨addr, hexec⟩ | ⟨n, rfl⟩ | ⟨r, rfl⟩ | ⟨r, rfl⟩ | rfl | rfl | ⟨blob, rfl⟩ |
    ⟨addr, data, delta, rfl⟩ | rfl | rfl | rfl | rfl | ⟨rest, rfl⟩ | ⟨rest, rfl⟩ | ⟨rest, rfl⟩ := exec_cases i
  · rw [hexec]
    exact regWrite_answers addr data cycle s
  · rw [hexec]
    exact regRead_answers addr s
  · exact render_answers n.toInt s
  · exact setOutputRate_answers r.toInt s
  · exact setClockRate_answers r.toInt s
  · exact answers_setChip_finish _ nofun
  · exact answers_finish nofun
  · exact exec_loadState_answers blob s
  · exact exec_qEnqueue_answers addr data delta s
  · exact answers_setChip_finish _ nofun
  · exact exec_qFront_answers s
  · exact answers_finish nofun
  · exact answers_finish nofun
  all_goals exact answers_raiseFault _ _ _

theorem commandAnswer_of_exec {i : Instr} {t : State} (hexec : exec i s = .next t) : CommandAnswer s t := by
  obtain ⟨t', hexec', hanswer⟩ := exec_answers i s
  rwa [Host.Outcome.next.inj (hexec.symm.trans hexec')]

/-- The fault record is kept, or one event longer, and then that event is the outcome (R131). -/
theorem CommandAnswer.fault_eq {t : State} (h : CommandAnswer s t) :
    t.fault = s.fault ∨ ∃ e, t.fault = s.fault ++ [e] ∧ t.result = .faulted e := by
  cases h with
  | finishes _ hfault _ => exact .inl hfault
  | faults code cw arg hraise => exact .inr ⟨⟨code, cw, arg⟩, by rw [hraise]; exact ⟨rfl, rfl⟩⟩

theorem CommandAnswer.reportsAtMostOneDrop {t : State} (h : CommandAnswer s t) : ReportsAtMostOneDrop s t := by
  cases h with
  | finishes _ _ hdiag => exact hdiag
  | faults _ _ _ hraise => exact .inl (by rw [hraise]; rfl)

/-! ## The step -/

/-- A step that waits leaves the machine; any other answers as a command does, on the machine that has taken the command off
its agents' order. -/
theorem step_answers (s : State) :
    step s = .next s ∨ ∃ rest, Answers { s with pending := rest } (step s) := by
  obtain ⟨-, h⟩ | ⟨p, rest, i, -, -, h⟩ | ⟨p, rest, e, -, -, h⟩ := step_cases s <;> rw [h]
  · exact .inl rfl
  · exact .inr ⟨rest, exec_answers i _⟩
  · exact .inr ⟨rest, answers_raiseFault _ _ _⟩

end

/-- Settles O55: the step waits or answers with a next state. -/
theorem noStepStops : Obligations.NoStepStops := by
  intro s
  obtain hwaits | ⟨rest, t, hstep, -⟩ := step_answers s
  · exact ⟨s, hwaits⟩
  · exact ⟨t, hstep⟩

/-- Settles O56: of the two answers only `raiseFault` has a fault as its outcome. -/
theorem faultsArePrecise : Obligations.FaultsArePrecise := by
  intro i s t e hexec hfaulted
  cases commandAnswer_of_exec hexec with
  | finishes hresult _ _ => exact absurd hfaulted (hresult e)
  | faults code cw arg hraise =>
    subst hraise
    obtain rfl : ⟨code, cw, arg⟩ = e := Result.faulted.inj hfaulted
    rfl

/-- Settles O57: the pending list, which the step shortens first, is no part of either record. -/
theorem recordsOnlyGrow : Obligations.RecordsOnlyGrow := by
  intro s t hstep
  obtain hwaits | ⟨rest, t', hstep', hanswer⟩ := step_answers s
  · obtain rfl := Host.Outcome.next.inj (hwaits.symm.trans hstep)
    exact ⟨.inl rfl, .inl rfl⟩
  · obtain rfl := Host.Outcome.next.inj (hstep'.symm.trans hstep)
    exact ⟨hanswer.fault_eq, hanswer.reportsAtMostOneDrop⟩

end Sys2Proof.Machine
end
